-- ==== Sys2Proof/Word.lean ====
section
/-! DEFINITION. The words of TWS-STEP (spec/00_scope.md R8, R10): the data byte, the bus address, the edge
counter and the 32-bit counters. Arithmetic on them wraps modulo two to the width (R12). -/

namespace Sys2Proof

/-- The data byte: 8 bits (R8). -/
abbrev Byte := BitVec 8

/-- The bus address: 7 bits (R8). -/
abbrev BusAddr := BitVec 7

/-- The bit-edge counter: 4 bits (R8). -/
abbrev EdgeCount := BitVec 4

/-- Position, target, step counts, budgets and timers: 32 bits (R8). -/
abbrev Word32 := BitVec 32

end Sys2Proof
end

