-- ==== Sys2Proof/Config.lean ====
section
/-! DEFINITION. The configuration record of TWS-STEP (spec/00_scope.md R7): the parameters an implementation
fixes before reset. A value outside the constraints of R7 is refused at construction (60_exceptions.md R239). -/

namespace Sys2Proof

/-- The entries of R7, in its order, before the constraints are checked; integers as 32-bit words (log 21, DESIGN
CHOICE, safe). -/
structure Params where
  /-- `DEV_ADDR`: the configured device address. -/
  devAddr : BusAddr
  /-- `SBR_INIT`: power-on value of the shared byte register. -/
  sbrInit : Byte
  /-- `SCALE`: position scale factor. -/
  scale : Word32
  /-- `MAX_UP_HOMING_BACKOFF`: step budget of homing phase 1 (B1). -/
  maxUpHomingBackoff : Word32
  /-- `MAX_HOMING_STEPS`: step budget of homing phase 2 (B2). -/
  maxHomingSteps : Word32
  /-- `MAX_BACKOFF_STEPS`: step budget of homing phase 3 (B3). -/
  maxBackoffSteps : Word32
  /-- `EXTRA_BACKOFF_STEPS`: step count of homing phase 4 (E4). -/
  extraBackoffSteps : Word32
  /-- `HP_P1`: half-period of homing phase 1, in cycles. -/
  hpP1 : Word32
  /-- `HP_P2`: half-period of homing phase 2, in cycles. -/
  hpP2 : Word32
  /-- `HP_P3`: half-period of homing phase 3, in cycles. -/
  hpP3 : Word32
  /-- `HP_P4`: half-period of homing phase 4, in cycles. -/
  hpP4 : Word32
  /-- `HP_CRUISE`: half-period in the position loop, in cycles. -/
  hpCruise : Word32
  /-- `SETTLE_CYCLES`: length of the settle delay. -/
  settleCycles : Word32
  /-- `UP_ACTIVE_LEVEL`: pin level meaning up-limit asserted. -/
  upActiveLevel : Bool
  /-- `DN_ACTIVE_LEVEL`: pin level meaning down-limit asserted. -/
  dnActiveLevel : Bool
  /-- `DIR_UP_LEVEL`: direction-output level meaning UP. -/
  dirUpLevel : Bool
  /-- `FAULT_ACTIVE_LEVEL`: fault-output level meaning fault asserted. -/
  faultActiveLevel : Bool
  /-- `BOTH_LIMITS_HALT`: both switches asserted cause the fail-stop halt. -/
  bothLimitsHalt : Bool
  /-- `BUS_ACTIVE_DURING_HOMING`: the bus engine runs during homing. -/
  busActiveDuringHoming : Bool
  /-- `BUS_ACTIVE_DURING_HALT`: the bus engine runs after the halt. -/
  busActiveDuringHalt : Bool
deriving DecidableEq, Repr

/-- Why a parameter record is no TWS-STEP configuration: the entry that breaks its constraint (R7, R239). -/
inductive ConfigError where
  /-- `SCALE` is not at least 1. -/
  | scaleZero
  /-- `255 * SCALE` exceeds `2^31 - 1`. -/
  | scaleTooLarge
  /-- `MAX_UP_HOMING_BACKOFF` is outside `1 .. 2^31 - 1`. -/
  | upHomingBackoff
  /-- `MAX_HOMING_STEPS` is outside `1 .. 2^31 - 1`. -/
  | homingSteps
  /-- `MAX_BACKOFF_STEPS` is outside `1 .. 2^31 - 1`. -/
  | backoffSteps
  /-- `EXTRA_BACKOFF_STEPS` is outside `0 .. 2^31 - 1`. -/
  | extraBackoff
  /-- A half-period is 0. -/
  | halfPeriod
deriving DecidableEq, Repr

/-- A step budget of homing phases 1 to 3 lies in `1 .. 2^31 - 1` (R7). -/
def legalBudget (b : Word32) : Bool := decide (1 ≤ b.toNat) && decide (b.toNat ≤ 2 ^ 31 - 1)

/-- The first constraint of R7 that the record breaks, none if it breaks none. Entries without a line here are
OPEN over the whole range of their type. -/
def Params.error? (p : Params) : Option ConfigError :=
  if p.scale.toNat < 1 then some .scaleZero
  else if 2 ^ 31 - 1 < 255 * p.scale.toNat then some .scaleTooLarge
  else if !legalBudget p.maxUpHomingBackoff then some .upHomingBackoff
  else if !legalBudget p.maxHomingSteps then some .homingSteps
  else if !legalBudget p.maxBackoffSteps then some .backoffSteps
  else if 2 ^ 31 - 1 < p.extraBackoffSteps.toNat then some .extraBackoff
  else if p.hpP1 == 0 || p.hpP2 == 0 || p.hpP3 == 0 || p.hpP4 == 0 || p.hpCruise == 0 then some .halfPeriod
  else none

/-- A TWS-STEP configuration: a parameter record with the proof that it breaks no constraint of R7, so that an
illegal one cannot be built (60_exceptions.md R239; 93_implementation_defined.md U7). -/
structure Config extends Params where
  legal : toParams.error? = none
deriving DecidableEq, Repr

/-- The configuration of a parameter record, or the constraint it breaks (R239). -/
def Config.ofParams (p : Params) : Except ConfigError Config :=
  match h : p.error? with
  | none => .ok { p with legal := h }
  | some e => .error e

/-- The parameter set P0 of spec/95_test_vectors.md section 0.1. DESIGN CHOICE, unsafe (log 1): `State.reset`
carries it, since a state must carry some configuration; no statement rests on its values. -/
def Config.p0 : Config where
  devAddr := 0x21
  sbrInit := 0x00
  scale := 4
  maxUpHomingBackoff := 10
  maxHomingSteps := 100
  maxBackoffSteps := 20
  extraBackoffSteps := 3
  hpP1 := 1
  hpP2 := 1
  hpP3 := 1
  hpP4 := 1
  hpCruise := 1
  settleCycles := 2
  upActiveLevel := true
  dnActiveLevel := true
  dirUpLevel := true
  faultActiveLevel := true
  bothLimitsHalt := true
  busActiveDuringHoming := true
  busActiveDuringHalt := true
  legal := by decide

end Sys2Proof
end

