-- ==== Sys2Proof/Syntax.lean ====
section
/-! DEFINITION. The operations of TWS-STEP (spec/00_scope.md R2, spec/30_encoding.md R91): one constructor of
`Instr` per row of opcode_table.json, and the closed enumerations of the coded registers (R86 to R89, R92; log
5, DEDUCED, safe). An operand of a constructor is a bit of the row's selector word (R80) that the row does not fix. -/

namespace Sys2Proof

/-- `ss`: the start/stop unit's state (R88). -/
inductive SsState where
  /-- Code 0, `SS_IDLE`. -/
  | idle
  /-- Code 1, `SS_SETTLE`: a start was seen and the unit waits for SCL low. -/
  | settle
deriving DecidableEq, Repr

/-- `pstate`: the six protocol states (R86). Codes 6 and 7 are reserved and have no constructor (R92). -/
inductive PState where
  | checkAddress
  | dataRead
  | dataReadAck
  | dataSend
  | dataSendAck
  | done
deriving DecidableEq, Repr

/-- `cstate`: the sixteen controller states (R87). -/
inductive CState where
  | h1Check
  | h1Move
  | h1Settle
  | h2Start
  | h2Move
  | h2Settle
  | h3Start
  | h3Move
  | h3Settle
  | h4Start
  | h4Move
  | h4Settle
  | lCompute
  | lMove
  | lTarget
  | halt
deriving DecidableEq, Repr

/-- `sq_phase`: the sequencer phases (R88). Code 3 is reserved and has no constructor (R92). -/
inductive SqPhase where
  | idle
  | high
  | low
deriving DecidableEq, Repr

/-- A direction: 0 = DOWN, 1 = UP (R88). -/
inductive Dir where
  | down
  | up
deriving DecidableEq, Repr

/-- The `spd` field of MOVE_CMD (R89). Codes 5 to 7 are reserved and have no constructor (R92). -/
inductive Speed where
  | p1
  | p2
  | p3
  | p4
  | cruise
deriving DecidableEq, Repr

/-- The cause codes 1 to 7 of the fail-stop halt (spec/60_exceptions.md R222). -/
inductive HaltCause where
  /-- Cause 1: phase 1 budget exhausted. -/
  | upBudget
  /-- Cause 2: up-limit still asserted after the settle of phase 1. -/
  | upStuck
  /-- Cause 3: phase 2 budget exhausted. -/
  | seekBudget
  /-- Cause 4: down-limit not asserted after the settle of phase 2. -/
  | downMissing
  /-- Cause 5: phase 3 budget exhausted. -/
  | backoffBudget
  /-- Cause 6: down-limit still asserted after the settle of phase 3. -/
  | downStuck
  /-- Cause 7: both limits asserted at once. -/
  | bothLimits
deriving DecidableEq, Repr

/-- MOVE_CMD (R89): the controller's command to the sequencer. -/
structure MoveCmd where
  /-- The direction. -/
  dir : Dir
  /-- The half-period selector. -/
  spd : Speed
  /-- `maxSteps`, unsigned. -/
  n : Word32
deriving DecidableEq, Repr

/-- The operations of the block, in the table's order. -/
inductive Instr where
  /-- LIMIT_SAMPLE (R101): the new sample `up_n`, `dn_n`. -/
  | limitSample (upN dnN : Bool)
  /-- TAKE_CHANGED (R104). -/
  | takeChanged
  /-- BURST_CLEAR (R105); `tz` is ignored. -/
  | burstClear (tz : Bool)
  /-- BUS_GATE (R110) on the controller state. -/
  | busGate (c : CState)
  /-- BUS_GATED (R111) in a controller state that closes the gate. -/
  | busGated (c : CState)
  /-- START_DETECT (R113); `ss` is ignored. -/
  | startDetect (ss : SsState)
  /-- STOP_DETECT (R115); `ss` is ignored. -/
  | stopDetect (ss : SsState)
  /-- START_COMMIT (R114); the operands are ignored. -/
  | startCommit (pScl pSda sda : Bool)
  /-- SETTLE_WAIT (R116); the operands are neither a start's nor a stop's. -/
  | settleWait (pScl pSda sda : Bool)
  /-- SCL_RISE (R117): `sda` is the level shifted in, `pSda` is ignored. -/
  | sclRise (pSda sda : Bool)
  /-- SCL_FALL (R119); the operands are ignored. -/
  | sclFall (pSda sda : Bool)
  /-- SCL_LOW (R120); the operands are ignored. -/
  | sclLow (pSda sda : Bool)
  /-- SCL_HIGH (R121): the SDA level, the same in both samples. -/
  | sclHigh (a : Bool)
  /-- COUNT (R118): `pScl` is the level the edge leaves; the other operands are ignored. -/
  | count (pScl pSda sda : Bool)
  /-- CA_MATCH_W (R142): `d` is the address of the byte, equal to `DEV_ADDR`. -/
  | caMatchW (d : BusAddr)
  /-- CA_MATCH_R (R143): `d` is the address of the byte, equal to `DEV_ADDR`. -/
  | caMatchR (d : BusAddr)
  /-- CA_BCAST_W (R142). -/
  | caBcastW
  /-- CA_BCAST_R (R143). -/
  | caBcastR
  /-- CA_NOMATCH (R144): any other address and either read/write bit. -/
  | caNomatch (a : BusAddr) (rw : Bool)
  /-- DATA_READ (R145). -/
  | dataRead
  /-- DATA_READ_ACK (R146). -/
  | dataReadAck
  /-- DATA_SEND (R147). -/
  | dataSend
  /-- DATA_SEND_ACK (R148). -/
  | dataSendAck
  /-- DONE (R149). -/
  | done
  /-- SEQ_START (R162) with the command issued this cycle; `tz` is ignored. -/
  | seqStart (tz : Bool) (cmd : MoveCmd)
  /-- SEQ_HIGH_COUNT (R164). -/
  | seqHighCount
  /-- SEQ_HIGH_END (R165). -/
  | seqHighEnd
  /-- SEQ_LOW_COUNT (R166). -/
  | seqLowCount
  /-- SEQ_PULSE_END (R167). -/
  | seqPulseEnd
  /-- SEQ_IDLE (R168); `tz` is ignored. -/
  | seqIdle (tz : Bool)
  /-- H1_CHECK (R181). -/
  | h1Check
  /-- H1_MOVE (R182). -/
  | h1Move
  /-- H1_SETTLE (R183). -/
  | h1Settle
  /-- H2_START (R184). -/
  | h2Start
  /-- H2_MOVE (R185). -/
  | h2Move
  /-- H2_SETTLE (R186). -/
  | h2Settle
  /-- H3_START (R187). -/
  | h3Start
  /-- H3_MOVE (R188). -/
  | h3Move
  /-- H3_SETTLE (R189). -/
  | h3Settle
  /-- H4_START (R190). -/
  | h4Start
  /-- H4_MOVE (R191). -/
  | h4Move
  /-- H4_SETTLE (R192). -/
  | h4Settle
  /-- L_COMPUTE (R201). -/
  | lCompute
  /-- L_MOVE (R202). -/
  | lMove
  /-- L_TARGET (R203). -/
  | lTarget
  /-- HALT (R224). -/
  | halt
  /-- BOTH_LIMITS (R222, cause 7). -/
  | bothLimits
  /-- HALT_ENTRY (R223) with its cause. -/
  | haltEntry (c : HaltCause)
  /-- RESET (R250). -/
  | reset
deriving DecidableEq, Repr

/-- The formats of R80. -/
inductive Format where
  | addrByte
  | dataByte
  | ackBit
  | lineSample
  | ssCtx
  | pstate
  | cstate
  | sqCtx
  | limitPair
  | moveCmd
  | rst
  | haltCause
deriving DecidableEq, Repr

/-- The width of a format in bits (R80). -/
def Format.width : Format → Nat
  | .addrByte => 8
  | .dataByte => 8
  | .ackBit => 1
  | .lineSample => 4
  | .ssCtx => 5
  | .pstate => 3
  | .cstate => 4
  | .sqCtx => 3
  | .limitPair => 2
  | .moveCmd => 36
  | .rst => 1
  | .haltCause => 3

/-- A place of the block that selects an operation by a word of one format (R91). Several places read the same
format, so a word names its operation only together with its slot (log 11). -/
inductive Slot where
  /-- The reset input. -/
  | rst
  /-- The limit monitor. -/
  | monitor
  /-- The bus gate. -/
  | gate
  /-- A cycle with the bus gate closed. -/
  | gated
  /-- The SCL event of the framing unit. -/
  | line
  /-- The edge counter that the framing unit calls. -/
  | counter
  /-- The start/stop unit. -/
  | startStop
  /-- The CHECK_ADDRESS service, on the address byte. -/
  | address
  /-- The other services. -/
  | service
  /-- The both-limits check of the controller. -/
  | bothLimits
  /-- The controller. -/
  | controller
  /-- The halt primitive that the controller calls. -/
  | haltEntry
  /-- The sequencer in a cycle with a move issued. -/
  | moveIssued
  /-- The sequencer in a cycle with no move to accept. -/
  | sequencer
  /-- The clear at burst start that the sequencer calls. -/
  | burstClear
  /-- The read and clear at a pulse end that the sequencer calls. -/
  | takeChanged
deriving DecidableEq, Repr

/-- The format a slot reads (R80, R91). -/
def Slot.format : Slot → Format
  | .rst => .rst
  | .monitor => .limitPair
  | .gate => .cstate
  | .gated => .cstate
  | .line => .lineSample
  | .counter => .lineSample
  | .startStop => .ssCtx
  | .address => .addrByte
  | .service => .pstate
  | .bothLimits => .limitPair
  | .controller => .cstate
  | .haltEntry => .haltCause
  | .moveIssued => .sqCtx
  | .sequencer => .sqCtx
  | .burstClear => .sqCtx
  | .takeChanged => .sqCtx

/-- A selector word and the slot that reads it. The selector stands in bits 7 to 0; the MOVE_CMD that SEQ_START
takes stands in bits 43 to 8 (log 11). -/
structure OpWord where
  /-- The slot. -/
  slot : Slot
  /-- The word. -/
  bits : BitVec 48
deriving DecidableEq, Repr

end Sys2Proof
end

