-- ==== Sys2Proof/Machine/Gate.lean ====
section
/-! DEFINITION. When the bus engine runs (spec/41_bus_framing.md R110): a function of the controller state and the
configuration alone. -/

namespace Sys2Proof

/-- The homing states, codes 0 to 11 (spec/30_encoding.md R87). -/
def CState.homing : CState → Bool
  | .h1Check => true
  | .h1Move => true
  | .h1Settle => true
  | .h2Start => true
  | .h2Move => true
  | .h2Settle => true
  | .h3Start => true
  | .h3Move => true
  | .h3Settle => true
  | .h4Start => true
  | .h4Move => true
  | .h4Settle => true
  | .lCompute => false
  | .lMove => false
  | .lTarget => false
  | .halt => false

/-- `bus_active` (R110). -/
def Config.busActive (c : Config) (cs : CState) : Bool :=
  !(cs.homing && !c.busActiveDuringHoming) && !(cs == .halt && !c.busActiveDuringHalt)

end Sys2Proof
end

