-- ==== Sys2Proof/WellFormed.lean ====
section
/-! DEFINITION. The checks on the operands of an operation (spec/30_encoding.md R83, R85; opcode_table.json): an
operation is well formed when its operands are ones its row admits under the configuration. -/

namespace Sys2Proof

/-- The line sample `pScl pSda 1 sda` is a start or a stop (R84), which take precedence over SETTLE_WAIT (R85). -/
def startOrStop (pScl pSda sda : Bool) : Bool := pScl && (pSda != sda)

/-- The operands are admitted by the operation's row. Where `DEV_ADDR` is 0 the rows CA_MATCH and CA_BCAST select
the same bytes and act alike (R83); CA_MATCH is then the one that is well formed (log 6, DESIGN CHOICE, safe). -/
def Instr.wellFormed (c : Config) : Instr → Bool
  | .busGated cs => !c.busActive cs
  | .settleWait pScl pSda sda => !startOrStop pScl pSda sda
  | .caMatchW d => d == c.devAddr
  | .caMatchR d => d == c.devAddr
  | .caBcastW => c.devAddr != 0
  | .caBcastR => c.devAddr != 0
  | .caNomatch a _ => a != c.devAddr && a != 0
  | .limitSample _ _ => true
  | .takeChanged => true
  | .burstClear _ => true
  | .busGate _ => true
  | .startDetect _ => true
  | .stopDetect _ => true
  | .startCommit _ _ _ => true
  | .sclRise _ _ => true
  | .sclFall _ _ => true
  | .sclLow _ _ => true
  | .sclHigh _ => true
  | .count _ _ _ => true
  | .dataRead => true
  | .dataReadAck => true
  | .dataSend => true
  | .dataSendAck => true
  | .done => true
  | .seqStart _ _ => true
  | .seqHighCount => true
  | .seqHighEnd => true
  | .seqLowCount => true
  | .seqPulseEnd => true
  | .seqIdle _ => true
  | .h1Check => true
  | .h1Move => true
  | .h1Settle => true
  | .h2Start => true
  | .h2Move => true
  | .h2Settle => true
  | .h3Start => true
  | .h3Move => true
  | .h3Settle => true
  | .h4Start => true
  | .h4Move => true
  | .h4Settle => true
  | .lCompute => true
  | .lMove => true
  | .lTarget => true
  | .halt => true
  | .bothLimits => true
  | .haltEntry _ => true
  | .reset => true

end Sys2Proof
end

