-- ==== Sys2Proof/Decode.lean ====
section
/-! DEFINITION. Decoding a selector word to the operation it selects, and encoding it back (spec/30_encoding.md
R80 to R92, opcode_table.json). Decoding is total on any word and rejects by name. -/

namespace Sys2Proof

/-! ### The codes of R86 to R89 -/

/-- R88. -/
def SsState.code : SsState → BitVec 1
  | .idle => 0
  | .settle => 1

/-- R88. -/
def SsState.ofCode (b : Bool) : SsState := if b then .settle else .idle

/-- R86. -/
def PState.code : PState → BitVec 3
  | .checkAddress => 0
  | .dataRead => 1
  | .dataReadAck => 2
  | .dataSend => 3
  | .dataSendAck => 4
  | .done => 5

/-- R87. -/
def CState.code : CState → BitVec 4
  | .h1Check => 0
  | .h1Move => 1
  | .h1Settle => 2
  | .h2Start => 3
  | .h2Move => 4
  | .h2Settle => 5
  | .h3Start => 6
  | .h3Move => 7
  | .h3Settle => 8
  | .h4Start => 9
  | .h4Move => 10
  | .h4Settle => 11
  | .lCompute => 12
  | .lMove => 13
  | .lTarget => 14
  | .halt => 15

/-- R87: every 4-bit code is a controller state. -/
def CState.ofCode (b : BitVec 4) : CState :=
  match b.toNat with
  | 0 => .h1Check
  | 1 => .h1Move
  | 2 => .h1Settle
  | 3 => .h2Start
  | 4 => .h2Move
  | 5 => .h2Settle
  | 6 => .h3Start
  | 7 => .h3Move
  | 8 => .h3Settle
  | 9 => .h4Start
  | 10 => .h4Move
  | 11 => .h4Settle
  | 12 => .lCompute
  | 13 => .lMove
  | 14 => .lTarget
  | _ => .halt

/-- R88. -/
def SqPhase.code : SqPhase → BitVec 2
  | .idle => 0
  | .high => 1
  | .low => 2

/-- R88. -/
def Dir.code : Dir → BitVec 1
  | .down => 0
  | .up => 1

/-- R88. -/
def Dir.ofCode (b : Bool) : Dir := if b then .up else .down

/-- R89. -/
def Speed.code : Speed → BitVec 3
  | .p1 => 0
  | .p2 => 1
  | .p3 => 2
  | .p4 => 3
  | .cruise => 4

/-- R89: codes 5 to 7 are reserved. -/
def Speed.ofCode (b : BitVec 3) : Option Speed :=
  match b.toNat with
  | 0 => some .p1
  | 1 => some .p2
  | 2 => some .p3
  | 3 => some .p4
  | 4 => some .cruise
  | _ => none

/-- The cause codes (spec/60_exceptions.md R222). -/
def HaltCause.code : HaltCause → BitVec 3
  | .upBudget => 1
  | .upStuck => 2
  | .seekBudget => 3
  | .downMissing => 4
  | .backoffBudget => 5
  | .downStuck => 6
  | .bothLimits => 7

/-- R222: code 0 is no halt. -/
def HaltCause.ofCode (b : BitVec 3) : Option HaltCause :=
  match b.toNat with
  | 1 => some .upBudget
  | 2 => some .upStuck
  | 3 => some .seekBudget
  | 4 => some .downMissing
  | 5 => some .backoffBudget
  | 6 => some .downStuck
  | 7 => some .bothLimits
  | _ => none

/-- MOVE_CMD as 36 bits: `dir` in 35, `spd` in 34 to 32, `n` in 31 to 0 (R80, R89). -/
def MoveCmd.bits (m : MoveCmd) : BitVec 36 := m.dir.code ++ m.spd.code ++ m.n

/-! ### Decoding -/

/-- Why a word selects no operation in a slot. -/
inductive DecodeError where
  /-- A bit above the format's width is set (R80). -/
  | strayBits
  /-- The reset input is 0: no reset (spec/70_reset_and_hazards.md R250). -/
  | notReset
  /-- The bus gate is open in this controller state: BUS_GATED does not apply (R110). -/
  | gateOpen
  /-- The line sample is a start or a stop: the start/stop unit takes it (R84). -/
  | startOrStop
  /-- The line sample is no SCL edge: nothing is counted (R118). -/
  | notAnEdge
  /-- The start/stop unit has no action for this value (R85). -/
  | noAction
  /-- `pstate` 0 selects by the address byte (R91). -/
  | byAddressByte
  /-- `pstate` 6 or 7: reserved (R92). -/
  | reservedPState
  /-- The limit pair is not 0b11 (R222). -/
  | notBothLimits
  /-- Cause code 0: no halt (R222). -/
  | noHalt
  /-- `spd` 5 to 7: reserved (R92). -/
  | reservedSpeed
  /-- `sq_phase` 3: reserved (R92). -/
  | reservedSqPhase
  /-- The sequencer is in another phase than the slot needs (R91). -/
  | wrongPhase
deriving DecidableEq, Repr

/-- The operand MOVE_CMD of a word (R89). -/
def decodeMove (m : BitVec 36) : Except DecodeError MoveCmd :=
  match Speed.ofCode (m.extractLsb' 32 3) with
  | some spd => .ok { dir := Dir.ofCode (m.getLsbD 35), spd := spd, n := m.setWidth 32 }
  | none => .error .reservedSpeed

/-- The SCL events of a line sample `p_scl p_sda scl sda` (R84). -/
def decodeLine (w : BitVec 4) : Except DecodeError Instr :=
  let pSda := w.getLsbD 2
  let sda := w.getLsbD 0
  match w.getLsbD 3, w.getLsbD 1 with
  | false, true => .ok (.sclRise pSda sda)
  | true, false => .ok (.sclFall pSda sda)
  | false, false => .ok (.sclLow pSda sda)
  | true, true => if pSda == sda then .ok (.sclHigh sda) else .error .startOrStop

/-- COUNT is selected by either SCL edge (R118). -/
def decodeCount (w : BitVec 4) : Except DecodeError Instr :=
  if w.getLsbD 3 != w.getLsbD 1 then .ok (.count (w.getLsbD 3) (w.getLsbD 2) (w.getLsbD 0))
  else .error .notAnEdge

/-- The start/stop unit's action on `ss` and the line sample, START and STOP first (R85). -/
def decodeStartStop (w : BitVec 5) : Except DecodeError Instr :=
  let ss := w.getLsbD 4
  let pScl := w.getLsbD 3
  let pSda := w.getLsbD 2
  let scl := w.getLsbD 1
  let sda := w.getLsbD 0
  if pScl && pSda && scl && !sda then .ok (.startDetect (SsState.ofCode ss))
  else if pScl && !pSda && scl && sda then .ok (.stopDetect (SsState.ofCode ss))
  else if ss && !scl then .ok (.startCommit pScl pSda sda)
  else if ss then .ok (.settleWait pScl pSda sda)
  else .error .noAction

/-- The five cases of the address byte (R82, R83): bits 7 to 1 are the address, bit 0 the read/write bit, 0 for a
write by the master. -/
def decodeAddress (c : Config) (w : Byte) : Except DecodeError Instr :=
  let addr : BusAddr := w.extractLsb' 1 7
  let rw := w.getLsbD 0
  if addr == c.devAddr then .ok (if rw then .caMatchR addr else .caMatchW addr)
  else if addr == 0 then .ok (if rw then .caBcastR else .caBcastW)
  else .ok (.caNomatch addr rw)

/-- The services other than CHECK_ADDRESS (R86). -/
def decodeService (w : BitVec 3) : Except DecodeError Instr :=
  match w.toNat with
  | 0 => .error .byAddressByte
  | 1 => .ok .dataRead
  | 2 => .ok .dataReadAck
  | 3 => .ok .dataSend
  | 4 => .ok .dataSendAck
  | 5 => .ok .done
  | _ => .error .reservedPState

/-- The controller's operation in a state (R87, R91). -/
def CState.instr : CState → Instr
  | .h1Check => .h1Check
  | .h1Move => .h1Move
  | .h1Settle => .h1Settle
  | .h2Start => .h2Start
  | .h2Move => .h2Move
  | .h2Settle => .h2Settle
  | .h3Start => .h3Start
  | .h3Move => .h3Move
  | .h3Settle => .h3Settle
  | .h4Start => .h4Start
  | .h4Move => .h4Move
  | .h4Settle => .h4Settle
  | .lCompute => .lCompute
  | .lMove => .lMove
  | .lTarget => .lTarget
  | .halt => .halt

/-- The sequencer's operation on `sq_phase` and `tz` with no move to accept (R91). -/
def decodeSequencer (w : BitVec 3) : Except DecodeError Instr :=
  match w.toNat with
  | 0 => .ok (.seqIdle false)
  | 1 => .ok (.seqIdle true)
  | 2 => .ok .seqHighCount
  | 3 => .ok .seqHighEnd
  | 4 => .ok .seqLowCount
  | 5 => .ok .seqPulseEnd
  | _ => .error .reservedSqPhase

/-- The operation a word without a MOVE_CMD operand selects in its slot; `w` holds the selector in its low bits. -/
def decodeSelector (c : Config) (slot : Slot) (w : Byte) : Except DecodeError Instr :=
  match slot with
  | .rst => if w.getLsbD 0 then .ok .reset else .error .notReset
  | .monitor => .ok (.limitSample (w.getLsbD 1) (w.getLsbD 0))
  | .gate => .ok (.busGate (CState.ofCode (w.setWidth 4)))
  | .gated =>
    if c.busActive (CState.ofCode (w.setWidth 4)) then .error .gateOpen
    else .ok (.busGated (CState.ofCode (w.setWidth 4)))
  | .line => decodeLine (w.setWidth 4)
  | .counter => decodeCount (w.setWidth 4)
  | .startStop => decodeStartStop (w.setWidth 5)
  | .address => decodeAddress c w
  | .service => decodeService (w.setWidth 3)
  | .bothLimits => if w.getLsbD 1 && w.getLsbD 0 then .ok .bothLimits else .error .notBothLimits
  | .controller => .ok (CState.ofCode (w.setWidth 4)).instr
  | .haltEntry =>
    match HaltCause.ofCode (w.setWidth 3) with
    | some cause => .ok (.haltEntry cause)
    | none => .error .noHalt
  | .moveIssued => .error .wrongPhase
  | .sequencer => decodeSequencer (w.setWidth 3)
  | .burstClear => if w.getLsbD 2 || w.getLsbD 1 then .error .wrongPhase else .ok (.burstClear (w.getLsbD 0))
  | .takeChanged => if w.toNat = 5 then .ok .takeChanged else .error .wrongPhase

/-- How many bits of a slot's word may be set: the format's width, and the 36 bits of MOVE_CMD above the selector
byte where the slot takes one (log 11). -/
def Slot.wordWidth : Slot → Nat
  | .moveIssued => 44
  | s => s.format.width

/-- The operation a word selects in its slot, or why it selects none. Total on any word (R91, R92). -/
def decode (c : Config) (o : OpWord) : Except DecodeError Instr :=
  if 2 ^ o.slot.wordWidth ≤ o.bits.toNat then .error .strayBits
  else
    match o.slot with
    | .moveIssued =>
      if o.bits.extractLsb' 1 7 != 0 then .error .wrongPhase
      else
        match decodeMove (o.bits.extractLsb' 8 36) with
        | .ok cmd => .ok (.seqStart (o.bits.getLsbD 0) cmd)
        | .error e => .error e
    | slot => decodeSelector c slot (o.bits.setWidth 8)

/-! ### Encoding -/

/-- A selector of at most eight bits in its slot. -/
def opWord {n : Nat} (slot : Slot) (w : BitVec n) : OpWord := { slot := slot, bits := w.setWidth 48 }

/-- A 4-bit line sample (R80). -/
def lineBits (pScl pSda scl sda : Bool) : BitVec 4 :=
  BitVec.ofBool pScl ++ BitVec.ofBool pSda ++ BitVec.ofBool scl ++ BitVec.ofBool sda

/-- The 5-bit value of the start/stop unit (R80). -/
def ssCtxBits (ss : SsState) (sample : BitVec 4) : BitVec 5 := ss.code ++ sample

/-- The 3-bit value of the sequencer (R80): `tz` is 1 when the pulse timer is 0. -/
def sqCtxBits (phase : SqPhase) (tz : Bool) : BitVec 3 := phase.code ++ BitVec.ofBool tz

/-- The limit pair (R80). -/
def limitPairBits (upN dnN : Bool) : BitVec 2 := BitVec.ofBool upN ++ BitVec.ofBool dnN

/-- The address byte (R82). -/
def addrByteBits (addr : BusAddr) (rw : Bool) : Byte := addr ++ BitVec.ofBool rw

/-- The word of SEQ_START: the sequencer's value and the MOVE_CMD above it. -/
def seqStartBits (tz : Bool) (cmd : MoveCmd) : BitVec 48 :=
  (cmd.bits ++ (sqCtxBits .idle tz).setWidth 8).setWidth 48

/-- The word of an operation, from the tables of R80 to R89. -/
def encode : Instr → OpWord
  | .limitSample upN dnN => opWord .monitor (limitPairBits upN dnN)
  | .takeChanged => opWord .takeChanged (sqCtxBits .low true)
  | .burstClear tz => opWord .burstClear (sqCtxBits .idle tz)
  | .busGate c => opWord .gate c.code
  | .busGated c => opWord .gated c.code
  | .startDetect ss => opWord .startStop (ssCtxBits ss (lineBits true true true false))
  | .stopDetect ss => opWord .startStop (ssCtxBits ss (lineBits true false true true))
  | .startCommit pScl pSda sda => opWord .startStop (ssCtxBits .settle (lineBits pScl pSda false sda))
  | .settleWait pScl pSda sda => opWord .startStop (ssCtxBits .settle (lineBits pScl pSda true sda))
  | .sclRise pSda sda => opWord .line (lineBits false pSda true sda)
  | .sclFall pSda sda => opWord .line (lineBits true pSda false sda)
  | .sclLow pSda sda => opWord .line (lineBits false pSda false sda)
  | .sclHigh a => opWord .line (lineBits true a true a)
  | .count pScl pSda sda => opWord .counter (lineBits pScl pSda (!pScl) sda)
  | .caMatchW d => opWord .address (addrByteBits d false)
  | .caMatchR d => opWord .address (addrByteBits d true)
  | .caBcastW => opWord .address (addrByteBits 0 false)
  | .caBcastR => opWord .address (addrByteBits 0 true)
  | .caNomatch a rw => opWord .address (addrByteBits a rw)
  | .dataRead => opWord .service PState.dataRead.code
  | .dataReadAck => opWord .service PState.dataReadAck.code
  | .dataSend => opWord .service PState.dataSend.code
  | .dataSendAck => opWord .service PState.dataSendAck.code
  | .done => opWord .service PState.done.code
  | .seqStart tz cmd => { slot := .moveIssued, bits := seqStartBits tz cmd }
  | .seqHighCount => opWord .sequencer (sqCtxBits .high false)
  | .seqHighEnd => opWord .sequencer (sqCtxBits .high true)
  | .seqLowCount => opWord .sequencer (sqCtxBits .low false)
  | .seqPulseEnd => opWord .sequencer (sqCtxBits .low true)
  | .seqIdle tz => opWord .sequencer (sqCtxBits .idle tz)
  | .h1Check => opWord .controller CState.h1Check.code
  | .h1Move => opWord .controller CState.h1Move.code
  | .h1Settle => opWord .controller CState.h1Settle.code
  | .h2Start => opWord .controller CState.h2Start.code
  | .h2Move => opWord .controller CState.h2Move.code
  | .h2Settle => opWord .controller CState.h2Settle.code
  | .h3Start => opWord .controller CState.h3Start.code
  | .h3Move => opWord .controller CState.h3Move.code
  | .h3Settle => opWord .controller CState.h3Settle.code
  | .h4Start => opWord .controller CState.h4Start.code
  | .h4Move => opWord .controller CState.h4Move.code
  | .h4Settle => opWord .controller CState.h4Settle.code
  | .lCompute => opWord .controller CState.lCompute.code
  | .lMove => opWord .controller CState.lMove.code
  | .lTarget => opWord .controller CState.lTarget.code
  | .halt => opWord .controller CState.halt.code
  | .bothLimits => opWord .bothLimits (limitPairBits true true)
  | .haltEntry c => opWord .haltEntry c.code
  | .reset => opWord .rst (1 : BitVec 1)

/-! ### A bare table word -/

/-- The slot in which a bare byte of opcode_table.json is read. The table gives every row one byte and no slot, and
the formats overlap, so a byte alone does not name its row. DESIGN CHOICE, safe (log 12): 0 to 15 are read as the
controller's state code (R51: the analogue of a program counter), 16 to 31 as the start/stop unit's value with
`ss` = 1, and the rest as an address byte. -/
def tableSlot (w : Nat) : Slot :=
  if w < 16 then .controller else if w < 32 then .startStop else .address

/-- The operation the decoder reads from a table word of `nbits` bits, under the configuration of `State.reset`. -/
def decodeTableWord (nbits w : Nat) : Option Instr :=
  if nbits = 8 && decide (w < 256) then
    match decode Config.p0 { slot := tableSlot w, bits := BitVec.ofNat 48 w } with
    | .ok i => some i
    | .error _ => none
  else none

end Sys2Proof
end

