-- ==== Sys2Proof/Machine/State.lean ====
section
/-! DEFINITION. The state of TWS-STEP (spec/10_state.md): every register of R24 to R48, the configuration (R50),
the input ports of the present cycle (R20) and the wires of the cycle in progress (R22), all plain data. The block
has no memory (20_memory.md R60), so the state holds none. -/

namespace Sys2Proof.Machine

/-- What the environment does in one cycle (R17, R20): the reset input, what the other parties of the bus do with
the lines, merged into one drive per line (true releases, false drives low; 20_memory.md R63; log 4, DEDUCED, safe),
and the two switch pins. -/
structure Drive where
  /-- `rst`. -/
  rst : Bool
  /-- `scl_m`. -/
  scl : Bool
  /-- `sda_m`. -/
  sda : Bool
  /-- `lim_up_pin`. -/
  limUpPin : Bool
  /-- `lim_dn_pin`. -/
  limDnPin : Bool
deriving DecidableEq, Repr

/-- The wires of the cycle in progress (R22), the model's own field (log 7): values that one unit computes and a
later one reads in the same cycle. Between cycles they are at rest (`Wires.rest`). -/
structure Wires where
  /-- `scl`: the SCL line level of the cycle, formed from the pre-state's outputs (20_memory.md R63). -/
  scl : Bool
  /-- `sda`: the SDA line level of the cycle. -/
  sda : Bool
  /-- SBR as it was at the start of the cycle: what every read of SBR returns (20_memory.md R62). -/
  sbr : Byte
  /-- `up_n` (40_limit_monitor.md R101). -/
  upN : Bool
  /-- `dn_n` (40_limit_monitor.md R101). -/
  dnN : Bool
  /-- `set_c` (40_limit_monitor.md R102). -/
  setC : Bool
  /-- `changed_m` (40_limit_monitor.md R102). -/
  changedM : Bool
  /-- `bus_active` (41_bus_framing.md R110). -/
  busActive : Bool
  /-- The value `take_changed` returned (40_limit_monitor.md R104). -/
  took : Bool
  /-- The command of `issue_move`, if the controller issued one this cycle (43_step_sequencer.md R161). -/
  move : Option MoveCmd
deriving DecidableEq, Repr

/-- The wires between cycles. -/
def Wires.rest : Wires where
  scl := false
  sda := false
  sbr := 0
  upN := false
  dnN := false
  setC := false
  changedM := false
  busActive := false
  took := false
  move := none

/-- The machine. -/
structure State where
  /-- The configuration (00_scope.md R7): fixed for the run, written by nothing (R50). -/
  cfg : Config
  /-- `p_scl` (R24). -/
  pScl : Bool
  /-- `p_sda` (R24). -/
  pSda : Bool
  /-- `ss` (R25). -/
  ss : SsState
  /-- `pstate` (R26). -/
  pstate : PState
  /-- `bb_en` (R27). -/
  bbEn : Bool
  /-- `ovf` (R28). -/
  ovf : Bool
  /-- `cnt` (R29). -/
  cnt : EdgeCount
  /-- `shreg` (R30). -/
  shreg : Byte
  /-- `dout` (R31). -/
  dout : Bool
  /-- `oe` (R32). -/
  oe : Bool
  /-- `SBR` (R33). -/
  sbr : Byte
  /-- `lim_up` (R34). -/
  limUp : Bool
  /-- `lim_dn` (R34). -/
  limDn : Bool
  /-- `changed` (R35). -/
  changed : Bool
  /-- `sq_phase` (R36). -/
  sqPhase : SqPhase
  /-- `sq_timer` (R37). -/
  sqTimer : Word32
  /-- `sq_max` (R38). -/
  sqMax : Word32
  /-- `sq_taken` (R38). -/
  sqTaken : Word32
  /-- `sq_hp` (R39). -/
  sqHp : Word32
  /-- `last_dir` (R40). -/
  lastDir : Dir
  /-- `cstate` (R41). -/
  cstate : CState
  /-- `hacc` (R42). -/
  hacc : Word32
  /-- `stimer` (R43). -/
  stimer : Word32
  /-- `position` (R44), two's complement. -/
  position : Word32
  /-- `target` (R45), two's complement. -/
  target : Word32
  /-- `homed` (R46). -/
  homed : Bool
  /-- `hb` (R47). -/
  hb : Bool
  /-- `halt_cause` (R48): the spec's model-only observation field; none is its code 0, not halted. -/
  haltCause : Option HaltCause
  /-- The environment's drive in the present cycle (R20). -/
  drive : Drive
  /-- The environment's drives in the cycles to come, the next one first; when there is none left, the present
  drive is held (log 3). -/
  script : List Drive
  /-- The wires of the cycle in progress. -/
  wires : Wires
deriving DecidableEq, Repr

/-- TWS-STEP has no trap and nothing in its spec stops it: the fail-stop halt is a state (60_exceptions.md R224,
R230). So there is no fault. -/
inductive Fault where
deriving DecidableEq, Repr

/-- Why a step has no meaning in the model. -/
inductive Refusal where
  /-- Raised by an arm of `exec` for an operation without a meaning. No arm raises it. Safe. -/
  | notModelled (mnemonic : String)
  /-- Raised by `step` when the word of a selected slot selects no operation. No state raises it, since every coded
  register is a closed enumeration (30_encoding.md R92; log 18). Safe. -/
  | undecodable (e : DecodeError)
deriving DecidableEq, Repr

/-- The reset state of R53. `scl` and `sda` are the line levels and `upN`, `dnN` the switch levels sampled in the
reset cycle; `drive` and `script` are the environment's. -/
def State.resetOf (cfg : Config) (scl sda upN dnN : Bool) (drive : Drive) (script : List Drive) : State where
  cfg := cfg
  pScl := scl
  pSda := sda
  ss := .idle
  pstate := .checkAddress
  bbEn := false
  ovf := false
  cnt := 0
  shreg := 0x00
  dout := true
  oe := false
  sbr := cfg.sbrInit
  limUp := upN
  limDn := dnN
  changed := false
  sqPhase := .idle
  sqTimer := 0
  sqMax := 0
  sqTaken := 0
  sqHp := 1
  lastDir := .down
  cstate := .h1Check
  hacc := 0
  stimer := 0
  position := 0
  target := 0
  homed := false
  hb := false
  haltCause := none
  drive := drive
  script := script
  wires := Wires.rest

/-- An environment at rest (log 2): no reset, both lines released, both switches not asserted. -/
def Drive.quiet (cfg : Config) : Drive where
  rst := false
  scl := true
  sda := true
  limUpPin := !cfg.upActiveLevel
  limDnPin := !cfg.dnActiveLevel

/-- The machine right after a reset cycle (R53, 70_reset_and_hazards.md R250). DESIGN CHOICE, unsafe (log 1, 2, 3):
the spec leaves the configuration and what the reset cycle samples to the implementation and the environment; this
state has the spec's test configuration P0 and an environment at rest that stays so. -/
def State.reset : State :=
  State.resetOf Config.p0 true true false false (Drive.quiet Config.p0) []

end Sys2Proof.Machine
end

