-- ==== Sys2Proof/Machine/Operands.lean ====
section
/-! DEFINITION. How operands, selector words and outputs are formed from the state (spec/30_encoding.md R80 to R90,
spec/10_state.md R23, spec/20_memory.md R63). -/

namespace Sys2Proof.Machine

/-! ### Outputs: functions of the state alone (10_state.md R23) -/

/-- `scl_dl`: the block drives SCL low (R23; 41_bus_framing.md R127). -/
def State.sclDl (s : State) : Bool := s.ovf

/-- `sda_dl`: the block drives SDA low (R23; 41_bus_framing.md R123). -/
def State.sdaDl (s : State) : Bool := s.oe && !s.dout

/-- `step_out` (R23; 43_step_sequencer.md R170). -/
def State.stepOut (s : State) : Bool := s.sqPhase == .high

/-- `dir_out` (R23; 43_step_sequencer.md R171). -/
def State.dirOut (s : State) : Bool :=
  if s.lastDir == .up then s.cfg.dirUpLevel else !s.cfg.dirUpLevel

/-- `fault_out` (R23; 60_exceptions.md R225). -/
def State.faultOut (s : State) : Bool :=
  if s.cstate == .halt then s.cfg.faultActiveLevel else !s.cfg.faultActiveLevel

/-- `hb_out` (R23; 45_position_loop.md R208). -/
def State.hbOut (s : State) : Bool := s.hb

/-! ### Inputs -/

/-- `scl_in`: a line is high only when no party drives it low (20_memory.md R63). -/
def State.sclIn (s : State) : Bool := s.drive.scl && !s.sclDl

/-- `sda_in` (20_memory.md R63). -/
def State.sdaIn (s : State) : Bool := s.drive.sda && !s.sdaDl

/-- The up-switch level of the cycle after polarity (40_limit_monitor.md R101). -/
def State.upAsserted (s : State) : Bool := s.drive.limUpPin == s.cfg.upActiveLevel

/-- The down-switch level of the cycle after polarity (40_limit_monitor.md R101). -/
def State.dnAsserted (s : State) : Bool := s.drive.limDnPin == s.cfg.dnActiveLevel

/-! ### Operands of the controller and the sequencer (30_encoding.md R90) -/

/-- `HP[spd]`: the half-period a speed selects (R89; 43_step_sequencer.md R162). -/
def halfPeriod (c : Config) : Speed → Word32
  | .p1 => c.hpP1
  | .p2 => c.hpP2
  | .p3 => c.hpP3
  | .p4 => c.hpP4
  | .cruise => c.hpCruise

/-- `target` from SBR: `zext_32(SBR) * SCALE` (45_position_loop.md R203, R204). -/
def scaledTarget (c : Config) (b : Byte) : Word32 := b.setWidth 32 * c.scale

/-- `d = s32(target - position)` (45_position_loop.md R201), as a 32-bit two's complement word. -/
def State.steps (s : State) : Word32 := s.target - s.position

/-- The burst length of homing phase 1: the budget that remains (44_homing.md R181). -/
def State.upBudgetLeft (s : State) : Word32 := s.cfg.maxUpHomingBackoff - s.hacc

/-! ### Selector words (30_encoding.md R80) -/

/-- LINE_SAMPLE: `p_scl p_sda scl sda` (R84). -/
def State.lineSample (s : State) : BitVec 4 := lineBits s.pScl s.pSda s.wires.scl s.wires.sda

/-- SS_CTX: `ss` and the line sample (R85). -/
def State.ssCtx (s : State) : BitVec 5 := ssCtxBits s.ss s.lineSample

/-- SQ_CTX: `sq_phase` and `tz` (R80). -/
def State.sqCtx (s : State) : BitVec 3 := sqCtxBits s.sqPhase (s.sqTimer == 0)

/-- LIMIT_PAIR: the new sample of both switches (R80). -/
def State.limitPair (s : State) : BitVec 2 := limitPairBits s.upAsserted s.dnAsserted

end Sys2Proof.Machine
end

