-- ==== Sys2Proof/Machine/Flags.lean ====
section
/-! DEFINITION. The conditions and flags the units compute (spec/10_state.md R49): line classification
(41_bus_framing.md R112), counting enable (R125), change detection (40_limit_monitor.md R102) and the tests of the
controller and the sequencer. -/

namespace Sys2Proof.Machine

/-! ### Line classification (41_bus_framing.md R112) -/

/-- `rise`: SCL rose. -/
def State.sclRose (s : State) : Bool := !s.pScl && s.wires.scl

/-- `fall`: SCL fell. -/
def State.sclFell (s : State) : Bool := s.pScl && !s.wires.scl

/-- `start`: SDA fell with SCL high in both samples. -/
def State.startSeen (s : State) : Bool := s.pScl && s.wires.scl && s.pSda && !s.wires.sda

/-- `stop`: SDA rose with SCL high in both samples. -/
def State.stopSeen (s : State) : Bool := s.pScl && s.wires.scl && !s.pSda && s.wires.sda

/-! ### Bus engine -/

/-- Edges are counted and shifted only with `bb_en = 1` and `ovf = 0` (41_bus_framing.md R125). -/
def State.counting (s : State) : Bool := s.bbEn && !s.ovf

/-- A byte-boundary event is serviced with `ovf = 1` and `bb_en = 1` (42_bus_protocol.md R141). -/
def State.serviceDue (s : State) : Bool := s.ovf && s.bbEn

/-! ### Limit monitor (40_limit_monitor.md R102) -/

/-- `set_c`: either level flipped this cycle. -/
def State.flipped (s : State) (upN dnN : Bool) : Bool := upN != s.limUp || dnN != s.limDn

/-! ### Controller and sequencer -/

/-- `idle`: the sequencer is idle (44_homing.md). -/
def State.sqIdle (s : State) : Bool := s.sqPhase == .idle

/-- The budget is exhausted: `hacc >= budget`, unsigned (92_eei_decisions.md D25). -/
def State.exhausted (s : State) (budget : Word32) : Bool := budget.ule s.hacc

/-- The both-limits condition, cause 7 (60_exceptions.md R222), on this cycle's switch levels. -/
def State.bothLimitsFire (s : State) (upN dnN : Bool) : Bool :=
  s.cstate != .halt && s.cfg.bothLimitsHalt && upN && dnN

end Sys2Proof.Machine
end

