-- ==== Sys2Proof/Machine/Ops.lean ====
section
/-! DEFINITION. The named operations that the meanings share: the edge counter and the acknowledge drive, the
monitor's primitives, the move interface, the settle delay, the fail-stop halt (the block's one exception entry;
there is no return from it but reset, spec/60_exceptions.md R230, R231) and the two ends of a cycle. -/

namespace Sys2Proof.Machine

/-- What a meaning answers. -/
abbrev Result := Host.Outcome State Fault Refusal

/-- Run `f` on the next state of `r`; a fault or a refusal stands. -/
def Result.andThen (r : Result) (f : State → Result) : Result :=
  match r with
  | .next s => f s
  | .fault e => .fault e
  | .refused e => .refused e

/-! ### The ends of a cycle -/

/-- The start of a cycle (10_state.md R22): the line levels are formed from the pre-state's outputs, and SBR is
held for this cycle's reads (20_memory.md R62). -/
def beginCycle (s : State) : State :=
  { s with wires := { Wires.rest with scl := s.sclIn, sda := s.sdaIn, sbr := s.sbr } }

/-- The output latch (41_bus_framing.md R122), transparent while SCL is sampled low. Done after framing, service
and start/stop, so it sees their `shreg` (log 8, DEDUCED, safe). -/
def latchOutput (s : State) : State :=
  if s.wires.busActive && !s.wires.scl then { s with dout := s.shreg.getLsbD 7 } else s

/-- The sample registers (41_bus_framing.md R126), gate open or closed. -/
def sampleLines (s : State) : State :=
  { s with pScl := s.wires.scl, pSda := s.wires.sda }

/-- The environment moves to its next cycle and the wires go to rest. With no further drive listed the present one
is held (log 3, DESIGN CHOICE). -/
def advance (s : State) : State :=
  match s.script with
  | [] => { s with wires := Wires.rest }
  | d :: ds => { s with drive := d, script := ds, wires := Wires.rest }

/-- The end of a cycle without reset. -/
def endCycle (s : State) : State := advance (sampleLines (latchOutput s))

/-! ### Limit monitor primitives (40_limit_monitor.md) -/

/-- `take_changed()` (R104): answers `changed_m` on its wire and clears the flag. -/
def takeChanged (s : State) : State :=
  { s with changed := false, wires := { s.wires with took := s.wires.changedM } }

/-- The clear at burst start (R105): a flip of this very cycle sets the flag again. -/
def burstClear (s : State) : State := { s with changed := s.wires.setC }

/-! ### Bus engine -/

/-- The bus engine's registers at reset, SBR aside (41_bus_framing.md R111; 10_state.md R53). -/
def resetBusEngine (s : State) : State :=
  { s with
    ss := .idle, pstate := .checkAddress, bbEn := false, ovf := false, cnt := 0, shreg := 0x00, dout := true
    oe := false }

/-- `COUNT` (41_bus_framing.md R118): one SCL edge; the sixteenth is the byte-boundary event. -/
def countEdge (s : State) : State :=
  if s.cnt == 15 then { s with cnt := 0, ovf := true } else { s with cnt := s.cnt + 1 }

/-- The service that drives an acknowledge bit (42_bus_protocol.md R142, R143, R146): a 0 in the shift register,
the output on, one bit to count, SCL released, the next state. -/
def driveAck (next : PState) (s : State) : State :=
  { s with shreg := 0x00, oe := true, cnt := 14, ovf := false, pstate := next }

/-! ### Move interface (43_step_sequencer.md R161) -/

/-- `issue_move(dir, n, spd)` by the controller: the command the sequencer sees this cycle. -/
def issueMove (dir : Dir) (n : Word32) (spd : Speed) (s : State) : State :=
  { s with wires := { s.wires with move := some { dir := dir, spd := spd, n := n } } }

/-- A high phase begins: it lasts `hp` cycles (43_step_sequencer.md R162, R167). -/
def beginPulse (hp : Word32) (s : State) : State := { s with sqPhase := .high, sqTimer := hp - 1 }

/-- The sequencer accepts a move (43_step_sequencer.md R162, R163). -/
def acceptMove (cmd : MoveCmd) (s : State) : State :=
  let hp := halfPeriod s.cfg cmd.spd
  let a := { burstClear s with lastDir := cmd.dir, sqTaken := 0, sqMax := cmd.n, sqHp := hp }
  if cmd.n == 0 then a else beginPulse hp a

/-- The end of a pulse (43_step_sequencer.md R167): one more full pulse, the check of `take_changed`, and either
the end of the burst or the next pulse. -/
def endPulse (s : State) : State :=
  let taken := s.sqTaken + 1
  let a := { takeChanged s with sqTaken := taken }
  if a.wires.took || s.sqMax.ule taken then { a with sqPhase := .idle } else beginPulse s.sqHp a

/-! ### Controller -/

/-- `halt(c)` (60_exceptions.md R223): the fail-stop halt is entered and any burst stops at once. `homed`,
`position` and the other sequencer registers keep their values. -/
def enterHalt (c : HaltCause) (s : State) : State :=
  { s with cstate := .halt, haltCause := some c, sqPhase := .idle }

/-- A settle state is entered (44_homing.md R193). -/
def beginSettle (next : CState) (s : State) : State :=
  { s with stimer := s.cfg.settleCycles, cstate := next }

/-- A settle state (44_homing.md R193): the timer counts down, and the last cycle verifies. -/
def settle (verify : State → State) (s : State) : State :=
  if s.stimer == 0 then verify s else { s with stimer := s.stimer - 1 }

/-- The verify of homing phases 1 to 3 (44_homing.md R183, R186, R189): the budget first, then the switch. -/
def verifyPhase (budget : Word32) (onBudget : HaltCause) (wrong : Bool) (onSwitch : HaltCause) (next : CState)
    (s : State) : State :=
  if s.exhausted budget then enterHalt onBudget s
  else if wrong then enterHalt onSwitch s
  else { s with hacc := 0, cstate := next }

/-- The wait for the burst of homing phases 2 and 3 (44_homing.md R185, R188). -/
def awaitBurst (next : CState) (s : State) : State :=
  if s.sqIdle then beginSettle next { s with hacc := s.sqTaken } else s

end Sys2Proof.Machine
end

