-- ==== Sys2Proof/Machine/Framing.lean ====
section
/-! DEFINITION. The operations of the bus gate, the start/stop unit and the framing unit
(spec/41_bus_framing.md). The output latch (R122) and the sample registers (R126) are written at the end of the
cycle (`endCycle`), after every operation of the bus engine, so no operation here writes them but BUS_GATED. -/

namespace Sys2Proof.Machine

/-- BUS_GATE (R110): whether the bus engine runs in this cycle, from the controller state. -/
def execBusGate (c : CState) (s : State) : Result :=
  .next { s with wires := { s.wires with busActive := s.cfg.busActive c } }

/-- BUS_GATED (R111): the bus engine at reset, SBR kept, the sample registers tracking the lines. -/
def execBusGated (s : State) : Result := .next (sampleLines (resetBusEngine s))

/-- START_DETECT (R113). `cnt` and `shreg` are not written. -/
def execStartDetect (s : State) : Result :=
  .next { s with pstate := .checkAddress, bbEn := false, ovf := false, oe := false, ss := .settle }

/-- STOP_DETECT (R115). `pstate` is not written (90_conflicts.md C2). -/
def execStopDetect (s : State) : Result :=
  .next { s with bbEn := false, ovf := false, oe := false, ss := .idle }

/-- START_COMMIT (R114): one byte is to be counted from the next edge on. -/
def execStartCommit (s : State) : Result :=
  .next { s with cnt := 0, ovf := false, bbEn := true, ss := .idle }

/-- SETTLE_WAIT (R116): nothing, without a timeout. -/
def execSettleWait (s : State) : Result := .next s

/-- SCL_RISE (R117): with counting enabled, shift in the sampled SDA level, most significant bit first, and count
the edge. -/
def execSclRise (sda : Bool) (s : State) : Result :=
  if s.counting then
    .next (countEdge { s with shreg := s.shreg.extractLsb' 0 7 ++ BitVec.ofBool sda })
  else .next s

/-- SCL_FALL (R119): with counting enabled, count the edge. -/
def execSclFall (s : State) : Result :=
  if s.counting then .next (countEdge s) else .next s

/-- SCL_LOW (R120): nothing is counted or shifted. -/
def execSclLow (s : State) : Result := .next s

/-- SCL_HIGH (R121): nothing is counted, shifted or latched. -/
def execSclHigh (s : State) : Result := .next s

/-- COUNT (R118), as the framing unit calls it. -/
def execCount (s : State) : Result := .next (countEdge s)

end Sys2Proof.Machine
end

