-- ==== Sys2Proof/Machine/Homing.lean ====
section
/-! DEFINITION. The controller's homing states (spec/44_homing.md). The both-limits check that precedes each of
them (60_exceptions.md R222) is made where the controller's operation is selected (`controllerSelection`). -/

namespace Sys2Proof.Machine

/-- H1_CHECK (R181): with the up-limit asserted and budget left, a burst down for all of the budget left. -/
def execH1Check (s : State) : Result :=
  if s.wires.upN && !s.exhausted s.cfg.maxUpHomingBackoff then
    .next { issueMove .down s.upBudgetLeft .p1 s with cstate := .h1Move }
  else .next (beginSettle .h1Settle s)

/-- H1_MOVE (R182): the steps of the burst are accumulated. -/
def execH1Move (s : State) : Result :=
  if s.sqIdle then .next { s with hacc := s.hacc + s.sqTaken, cstate := .h1Check } else .next s

/-- H1_SETTLE (R183): causes 1 and 2. -/
def execH1Settle (s : State) : Result :=
  .next (settle (verifyPhase s.cfg.maxUpHomingBackoff .upBudget s.wires.upN .upStuck .h2Start) s)

/-- H2_START (R184): seek the down-limit unless it is asserted. -/
def execH2Start (s : State) : Result :=
  if s.wires.dnN then .next (beginSettle .h2Settle { s with hacc := 0 })
  else .next { issueMove .down s.cfg.maxHomingSteps .p2 s with cstate := .h2Move }

/-- H2_MOVE (R185). -/
def execH2Move (s : State) : Result := .next (awaitBurst .h2Settle s)

/-- H2_SETTLE (R186): causes 3 and 4. -/
def execH2Settle (s : State) : Result :=
  .next (settle (verifyPhase s.cfg.maxHomingSteps .seekBudget (!s.wires.dnN) .downMissing .h3Start) s)

/-- H3_START (R187): back off the down-limit. -/
def execH3Start (s : State) : Result :=
  .next { issueMove .up s.cfg.maxBackoffSteps .p3 s with cstate := .h3Move }

/-- H3_MOVE (R188). -/
def execH3Move (s : State) : Result := .next (awaitBurst .h3Settle s)

/-- H3_SETTLE (R189): causes 5 and 6. -/
def execH3Settle (s : State) : Result :=
  .next (settle (verifyPhase s.cfg.maxBackoffSteps .backoffBudget s.wires.dnN .downStuck .h4Start) s)

/-- H4_START (R190): the extra clearance, possibly of no step. -/
def execH4Start (s : State) : Result :=
  .next { issueMove .up s.cfg.extraBackoffSteps .p4 s with cstate := .h4Move }

/-- H4_MOVE (R191): the steps taken are not checked (90_conflicts.md C9). -/
def execH4Move (s : State) : Result :=
  if s.sqIdle then .next (beginSettle .h4Settle s) else .next s

/-- H4_SETTLE (R192): homing is complete. -/
def execH4Settle (s : State) : Result :=
  .next (settle (fun s => { s with position := 0, homed := true, cstate := .lCompute }) s)

end Sys2Proof.Machine
end

