-- ==== Sys2Proof/Machine/Loop.lean ====
section
/-! DEFINITION. The position control loop (spec/45_position_loop.md). -/

namespace Sys2Proof.Machine

/-- L_COMPUTE (R201): a burst toward the target, or none if there. -/
def execLCompute (s : State) : Result :=
  let d := s.steps
  if (0 : Word32).slt d then .next { issueMove .up d .cruise s with cstate := .lMove }
  else if d.slt 0 then .next { issueMove .down (-d) .cruise s with cstate := .lMove }
  else .next { s with cstate := .lTarget }

/-- L_MOVE (R202): the steps completed go into the position. -/
def execLMove (s : State) : Result :=
  if s.sqIdle then
    match s.lastDir with
    | .up => .next { s with position := s.position + s.sqTaken, cstate := .lTarget }
    | .down => .next { s with position := s.position - s.sqTaken, cstate := .lTarget }
  else .next s

/-- L_TARGET (R203, R208): the target from SBR as it was at the start of the cycle (20_memory.md R62), and the
heartbeat. -/
def execLTarget (s : State) : Result :=
  .next { s with target := scaledTarget s.cfg s.wires.sbr, hb := !s.hb, cstate := .lCompute }

end Sys2Proof.Machine
end

