-- ==== Sys2Proof/Machine/Monitor.lean ====
section
/-! DEFINITION. The operations of the limit-switch monitor (spec/40_limit_monitor.md). -/

namespace Sys2Proof.Machine

/-- LIMIT_SAMPLE (R101, R102, R103): the new switch levels and change detection. -/
def execLimitSample (upN dnN : Bool) (s : State) : Result :=
  let setC := s.flipped upN dnN
  let changedM := s.changed || setC
  .next { s with
    limUp := upN, limDn := dnN, changed := changedM
    wires := { s.wires with upN := upN, dnN := dnN, setC := setC, changedM := changedM } }

/-- TAKE_CHANGED (R104). -/
def execTakeChanged (s : State) : Result := .next (takeChanged s)

/-- BURST_CLEAR (R105). -/
def execBurstClear (s : State) : Result := .next (burstClear s)

end Sys2Proof.Machine
end

