-- ==== Sys2Proof/Machine/Protocol.lean ====
section
/-! DEFINITION. The services of the bus slave protocol machine (spec/42_bus_protocol.md). Each clears `ovf`, which
ends the clock stretch (R141). -/

namespace Sys2Proof.Machine

/-- CA_MATCH_W (R142): acknowledge, then receive a byte. -/
def execCaMatchW (s : State) : Result := .next (driveAck .dataRead s)

/-- CA_MATCH_R (R143): acknowledge, then send a byte. -/
def execCaMatchR (s : State) : Result := .next (driveAck .dataSend s)

/-- CA_BCAST_W (R142): the broadcast address is accepted like `DEV_ADDR`. -/
def execCaBcastW (s : State) : Result := .next (driveAck .dataRead s)

/-- CA_BCAST_R (R143): 0x01 is a read of SBR (30_encoding.md R83). -/
def execCaBcastR (s : State) : Result := .next (driveAck .dataSend s)

/-- CA_NOMATCH (R144): deaf until the next start, SDA released. -/
def execCaNomatch (s : State) : Result :=
  .next { s with bbEn := false, oe := false, ovf := false, pstate := .checkAddress }

/-- DATA_READ (R145): release SDA and count eight bits. -/
def execDataRead (s : State) : Result :=
  .next { s with oe := false, cnt := 0, ovf := false, pstate := .dataReadAck }

/-- DATA_READ_ACK (R146): the received byte into SBR, the only write of it, and an acknowledge. -/
def execDataReadAck (s : State) : Result := .next (driveAck .done { s with sbr := s.shreg })

/-- DATA_SEND (R147): copy SBR, as it was at the start of the cycle (20_memory.md R62), and drive eight bits. -/
def execDataSend (s : State) : Result :=
  .next { s with shreg := s.wires.sbr, oe := true, cnt := 0, ovf := false, pstate := .dataSendAck }

/-- DATA_SEND_ACK (R148): release SDA and count the master's acknowledge bit. -/
def execDataSendAck (s : State) : Result :=
  .next { s with oe := false, cnt := 14, ovf := false, pstate := .done }

/-- DONE (R149): release SDA; only start and stop act from now on. `pstate` is not written. -/
def execDone (s : State) : Result := .next { s with oe := false, bbEn := false, ovf := false }

end Sys2Proof.Machine
end

