-- ==== Sys2Proof/Machine/Sequencer.lean ====
section
/-! DEFINITION. The operations of the step sequencer (spec/43_step_sequencer.md). -/

namespace Sys2Proof.Machine

/-- SEQ_START (R162, R163): accept the move issued this cycle. -/
def execSeqStart (cmd : MoveCmd) (s : State) : Result := .next (acceptMove cmd s)

/-- SEQ_HIGH_COUNT (R164). -/
def execSeqHighCount (s : State) : Result := .next { s with sqTimer := s.sqTimer - 1 }

/-- SEQ_HIGH_END (R165). -/
def execSeqHighEnd (s : State) : Result := .next { s with sqPhase := .low, sqTimer := s.sqHp - 1 }

/-- SEQ_LOW_COUNT (R166). -/
def execSeqLowCount (s : State) : Result := .next { s with sqTimer := s.sqTimer - 1 }

/-- SEQ_PULSE_END (R167). -/
def execSeqPulseEnd (s : State) : Result := .next (endPulse s)

/-- SEQ_IDLE (R168): nothing is written. -/
def execSeqIdle (s : State) : Result := .next s

end Sys2Proof.Machine
end

