-- ==== Sys2Proof/Machine/System.lean ====
section
/-! DEFINITION. The fail-stop halt and reset (spec/60_exceptions.md, spec/70_reset_and_hazards.md). -/

namespace Sys2Proof.Machine

/-- HALT (R224): absorbing; the controller takes no action. -/
def execHalt (s : State) : Result := .next s

/-- BOTH_LIMITS (R222): the fail-stop halt with cause 7, under its whole condition (log 15). -/
def execBothLimits (s : State) : Result :=
  if s.bothLimitsFire s.wires.upN s.wires.dnN then .next (enterHalt .bothLimits s) else .next s

/-- HALT_ENTRY (R223): `halt(c)`. -/
def execHaltEntry (c : HaltCause) (s : State) : Result := .next (enterHalt c s)

/-- RESET (R250): the reset state of 10_state.md R53, whatever the pre-state, with the lines and the pins sampled
in this cycle. -/
def execReset (s : State) : Result :=
  .next (State.resetOf s.cfg s.wires.scl s.wires.sda s.upAsserted s.dnAsserted s.drive s.script)

end Sys2Proof.Machine
end

