-- ==== Sys2Proof/Machine/Dispatch.lean ====
section
/-! DEFINITION. One arm per operation of the block: the meaning it calls. -/

namespace Sys2Proof.Machine

def exec (i : Instr) (s : State) : Host.Outcome State Fault Refusal :=
  match i with
  | .limitSample upN dnN => Sys2Proof.Machine.execLimitSample upN dnN s
  | .takeChanged => Sys2Proof.Machine.execTakeChanged s
  | .burstClear _ => Sys2Proof.Machine.execBurstClear s
  | .busGate c => Sys2Proof.Machine.execBusGate c s
  | .busGated _ => Sys2Proof.Machine.execBusGated s
  | .startDetect _ => Sys2Proof.Machine.execStartDetect s
  | .stopDetect _ => Sys2Proof.Machine.execStopDetect s
  | .startCommit _ _ _ => Sys2Proof.Machine.execStartCommit s
  | .settleWait _ _ _ => Sys2Proof.Machine.execSettleWait s
  | .sclRise _ sda => Sys2Proof.Machine.execSclRise sda s
  | .sclFall _ _ => Sys2Proof.Machine.execSclFall s
  | .sclLow _ _ => Sys2Proof.Machine.execSclLow s
  | .sclHigh _ => Sys2Proof.Machine.execSclHigh s
  | .count _ _ _ => Sys2Proof.Machine.execCount s
  | .caMatchW _ => Sys2Proof.Machine.execCaMatchW s
  | .caMatchR _ => Sys2Proof.Machine.execCaMatchR s
  | .caBcastW => Sys2Proof.Machine.execCaBcastW s
  | .caBcastR => Sys2Proof.Machine.execCaBcastR s
  | .caNomatch _ _ => Sys2Proof.Machine.execCaNomatch s
  | .dataRead => Sys2Proof.Machine.execDataRead s
  | .dataReadAck => Sys2Proof.Machine.execDataReadAck s
  | .dataSend => Sys2Proof.Machine.execDataSend s
  | .dataSendAck => Sys2Proof.Machine.execDataSendAck s
  | .done => Sys2Proof.Machine.execDone s
  | .seqStart _ cmd => Sys2Proof.Machine.execSeqStart cmd s
  | .seqHighCount => Sys2Proof.Machine.execSeqHighCount s
  | .seqHighEnd => Sys2Proof.Machine.execSeqHighEnd s
  | .seqLowCount => Sys2Proof.Machine.execSeqLowCount s
  | .seqPulseEnd => Sys2Proof.Machine.execSeqPulseEnd s
  | .seqIdle _ => Sys2Proof.Machine.execSeqIdle s
  | .h1Check => Sys2Proof.Machine.execH1Check s
  | .h1Move => Sys2Proof.Machine.execH1Move s
  | .h1Settle => Sys2Proof.Machine.execH1Settle s
  | .h2Start => Sys2Proof.Machine.execH2Start s
  | .h2Move => Sys2Proof.Machine.execH2Move s
  | .h2Settle => Sys2Proof.Machine.execH2Settle s
  | .h3Start => Sys2Proof.Machine.execH3Start s
  | .h3Move => Sys2Proof.Machine.execH3Move s
  | .h3Settle => Sys2Proof.Machine.execH3Settle s
  | .h4Start => Sys2Proof.Machine.execH4Start s
  | .h4Move => Sys2Proof.Machine.execH4Move s
  | .h4Settle => Sys2Proof.Machine.execH4Settle s
  | .lCompute => Sys2Proof.Machine.execLCompute s
  | .lMove => Sys2Proof.Machine.execLMove s
  | .lTarget => Sys2Proof.Machine.execLTarget s
  | .halt => Sys2Proof.Machine.execHalt s
  | .bothLimits => Sys2Proof.Machine.execBothLimits s
  | .haltEntry c => Sys2Proof.Machine.execHaltEntry c s
  | .reset => Sys2Proof.Machine.execReset s

end Sys2Proof.Machine
end

