-- ==== Sys2Proof/Machine/Select.lean ====
section
/-! DEFINITION. Which operations a cycle selects (spec/30_encoding.md R84 to R91, spec/10_state.md R22,
spec/41_bus_framing.md R128): for each unit the slot and the selector word, formed from the pre-state. This is the
block's counterpart of fetching: it fetches no instruction words (20_memory.md R72). -/

namespace Sys2Proof.Machine

/-- The SCL event of the framing unit; a start or a stop is none (R84). -/
def lineSelection (s : State) : List OpWord :=
  if s.startSeen || s.stopSeen then [] else [opWord .line s.lineSample]

/-- The service of a pending byte-boundary event: CHECK_ADDRESS by the address byte, the others by `pstate`
(42_bus_protocol.md R141, 30_encoding.md R91). -/
def serviceSelection (s : State) : List OpWord :=
  if s.serviceDue then
    if s.pstate == .checkAddress then [opWord .address s.shreg] else [opWord .service s.pstate.code]
  else []

/-- The start/stop unit acts on a start, on a stop, and in SS_SETTLE (R85). -/
def startStopSelection (s : State) : List OpWord :=
  if s.startSeen || s.stopSeen || s.ss == .settle then [opWord .startStop s.ssCtx] else []

/-- The bus engine in the order of 41_bus_framing.md R128, or the gated cycle (R111). -/
def busSelection (s : State) : List OpWord :=
  if s.cfg.busActive s.cstate then lineSelection s ++ serviceSelection s ++ startStopSelection s
  else [opWord .gated s.cstate.code]

/-- The controller: the both-limits check before the state's own step (60_exceptions.md R222). -/
def controllerSelection (s : State) : OpWord :=
  if s.bothLimitsFire s.upAsserted s.dnAsserted then opWord .bothLimits s.limitPair
  else opWord .controller s.cstate.code

/-- Everything the pre-state `s` of a cycle without reset selects, but the sequencer: limit monitor, bus gate, bus
engine, controller (10_state.md R22). -/
def selections (s : State) : List OpWord :=
  opWord .monitor s.limitPair :: opWord .gate s.cstate.code :: (busSelection s ++ [controllerSelection s])

/-- The word of SEQ_START: the sequencer's value and the command (log 11). -/
def moveWord (s : State) (cmd : MoveCmd) : OpWord :=
  { slot := .moveIssued, bits := seqStartBits (s.sqTimer == 0) cmd }

/-- The sequencer's operation in a cycle with pre-state `s`, once the controller has acted and left `c`
(10_state.md R22): none where the controller entered the halt (60_exceptions.md R223), else by `sq_phase`, and in
IDLE by whether a move was issued (R91). A move issued to a busy sequencer is not looked at (log 9),
and in HALT itself the sequencer acts as it always does (log 10): both in states no run reaches. DEDUCED, safe. -/
def sequencerSelection (s c : State) : List OpWord :=
  if c.cstate == .halt && s.cstate != .halt then []
  else
    match c.wires.move with
    | some cmd => if s.sqIdle then [moveWord s cmd] else [opWord .sequencer s.sqCtx]
    | none => [opWord .sequencer s.sqCtx]

/-! ### Making a cycle select the operation of a table word (log 12) -/

/-- The controller state with the bus gate open: the present one if it opens the gate, else L_COMPUTE. -/
def gateOpenState (s : State) : CState := if s.cfg.busActive s.cstate then s.cstate else .lCompute

/-- The controller is about to step in state `c`: no reset, and the both-limits check does not fire. -/
def placeController (c : CState) (s : State) : State :=
  let fires := ({ s with cstate := c } : State).bothLimitsFire s.upAsserted s.dnAsserted
  { s with
    cstate := c
    drive := { s.drive with
      rst := false, limUpPin := if fires then !s.cfg.upActiveLevel else s.drive.limUpPin } }

/-- The start/stop unit is about to see `ss = SS_SETTLE` and the given line sample, with the gate open. -/
def placeStartStop (w : BitVec 5) (s : State) : State :=
  let scl := w.getLsbD 1
  let sda := w.getLsbD 0
  { s with
    ss := .settle, pScl := w.getLsbD 3, pSda := w.getLsbD 2
    ovf := s.ovf && !scl, oe := s.oe && !sda, cstate := gateOpenState s
    drive := { s.drive with rst := false, scl := scl, sda := sda } }

/-- The CHECK_ADDRESS service is about to run on the byte `w`, with the gate open. -/
def placeAddress (w : Byte) (s : State) : State :=
  { s with
    ovf := true, bbEn := true, pstate := .checkAddress, shreg := w, cstate := gateOpenState s
    drive := { s.drive with rst := false } }

/-- The state in which the next cycle selects the operation of the table word `w`. -/
def placeWord (s : State) (nbits w : Nat) : State :=
  if nbits = 8 && decide (w < 256) then
    match tableSlot w with
    | .controller => placeController (CState.ofCode (BitVec.ofNat 4 w)) s
    | .startStop => placeStartStop (BitVec.ofNat 5 w) s
    | _ => placeAddress (BitVec.ofNat 8 w) s
  else s

end Sys2Proof.Machine
end

