-- ==== Sys2Proof/Machine/Cycle.lean ====
section
/-! DEFINITION. One `clk` cycle (spec/10_state.md R22): the operations its pre-state selects, decoded and executed
in the order monitor, bus engine, controller, sequencer. -/

namespace Sys2Proof.Machine

/-- Decode a selected word and execute the operation. -/
def runWord (o : OpWord) (s : State) : Result :=
  match decode s.cfg o with
  | .ok i => exec i s
  | .error e => .refused (.undecodable e)

/-- Decode and execute selected words one after the other. -/
def runWords : List OpWord → State → Result
  | [], s => .next s
  | o :: os, s => Result.andThen (runWord o s) (runWords os)

/-- The word of an asserted reset input (R250). -/
def resetWord : OpWord := opWord .rst (1 : BitVec 1)

/-- A cycle with `rst = 1` (R22): the reset state and nothing else. -/
def resetCycle (s : State) : Result :=
  Result.andThen (runWord resetWord s) fun c => .next (advance c)

/-- A cycle with `rst = 0` (R22), on the pre-state `s` with the cycle's lines formed. -/
def activeCycle (s : State) : Result :=
  Result.andThen (runWords (selections s) s) fun c =>
    Result.andThen (runWords (sequencerSelection s c) c) fun c' => .next (endCycle c')

/-- One `clk` cycle; `rst` overrides everything (R22, 60_exceptions.md R229). -/
def cycle (s : State) : Result :=
  let b := beginCycle s
  if b.drive.rst then resetCycle b else activeCycle b

end Sys2Proof.Machine
end

