-- ==== Sys2Proof/Machine/Step.lean ====
section
/-! DEFINITION. The step of the machine: one `clk` cycle (spec/00_scope.md R17). -/

namespace Sys2Proof.Machine

/-- One `clk` cycle. -/
def step (s : State) : Host.Outcome State Fault Refusal := cycle s

/-- `s` with the registers and inputs set that make the next step select the operation of the table word `w`
(log 12): the block fetches no word, a unit selects its operation from the state. -/
def State.withFetchWord (s : State) (nbits w : Nat) : State := placeWord s nbits w

end Sys2Proof.Machine
end

