-- ==== Sys2Proof/Reference.lean ====
section
/-! DEFINITION. The cycle written register by register: for every register the value the rules give it, as a
function of the pre-state and the inputs alone (spec/00_scope.md R11, spec/10_state.md R22, 41_bus_framing.md R128,
60_exceptions.md R229). A second formulation of `step`, which runs operations one after the other; that the two
agree is a statement for the provers (`Obligations.StepIsThePreStateCycle`). Nothing in Machine/ uses it. -/

namespace Sys2Proof.Reference

open Sys2Proof.Machine

/-! ### Wires -/

/-- `set_c` (R102). -/
def setC (s : State) : Bool := s.upAsserted != s.limUp || s.dnAsserted != s.limDn

/-- `changed_m` (R102). -/
def changedM (s : State) : Bool := s.changed || setC s

/-- `bus_active` (R110). -/
def active (s : State) : Bool := s.cfg.busActive s.cstate

/-- `rise` (R112). -/
def rise (s : State) : Bool := !s.pScl && s.sclIn

/-- `fall` (R112). -/
def fall (s : State) : Bool := s.pScl && !s.sclIn

/-- `start` (R112). -/
def start (s : State) : Bool := s.pScl && s.sclIn && s.pSda && !s.sdaIn

/-- `stop` (R112). -/
def stop (s : State) : Bool := s.pScl && s.sclIn && !s.pSda && s.sdaIn

/-- START_COMMIT acts: neither start nor stop, SS_SETTLE, SCL low (R114, R128). -/
def commit (s : State) : Bool := !start s && !stop s && s.ss == .settle && !s.sclIn

/-- A counted SCL edge (R125). -/
def edge (s : State) : Bool := (rise s || fall s) && s.bbEn && !s.ovf

/-- The service runs (R141). -/
def service (s : State) : Bool := s.ovf && s.bbEn

/-- The address byte matches (R83). -/
def addressed (s : State) : Bool :=
  s.shreg.extractLsb' 1 7 == s.cfg.devAddr || s.shreg.extractLsb' 1 7 == 0

/-! ### Bus engine -/

/-- `ss'`. -/
def ss (s : State) : SsState :=
  if !active s then .idle
  else if start s then .settle
  else if stop s || commit s then .idle
  else s.ss

/-- The state after the service of `pstate` (R142 to R149). -/
def afterService (s : State) : PState :=
  match s.pstate with
  | .checkAddress =>
    if addressed s then (if s.shreg.getLsbD 0 then .dataSend else .dataRead) else .checkAddress
  | .dataRead => .dataReadAck
  | .dataReadAck => .done
  | .dataSend => .dataSendAck
  | .dataSendAck => .done
  | .done => .done

/-- `pstate'`. -/
def pstate (s : State) : PState :=
  if !active s || start s then .checkAddress
  else if service s then afterService s
  else s.pstate

/-- `bb_en'` (R27). -/
def bbEn (s : State) : Bool :=
  if !active s || start s || stop s then false
  else if commit s then true
  else if service s && ((s.pstate == .checkAddress && !addressed s) || s.pstate == .done) then false
  else s.bbEn

/-- `ovf'` (R28). -/
def ovf (s : State) : Bool :=
  if !active s || start s || stop s || commit s || service s then false
  else if edge s && s.cnt == 15 then true
  else s.ovf

/-- `cnt'` (R29, R118, R124). -/
def cnt (s : State) : EdgeCount :=
  if !active s || commit s then 0
  else if service s then
    match s.pstate with
    | .checkAddress => if addressed s then 14 else s.cnt
    | .dataRead => 0
    | .dataReadAck => 14
    | .dataSend => 0
    | .dataSendAck => 14
    | .done => s.cnt
  else if edge s then s.cnt + 1
  else s.cnt

/-- `shreg'` (R30). -/
def shreg (s : State) : Byte :=
  if !active s then 0
  else if service s then
    match s.pstate with
    | .checkAddress => if addressed s then 0 else s.shreg
    | .dataRead => s.shreg
    | .dataReadAck => 0
    | .dataSend => s.sbr
    | .dataSendAck => s.shreg
    | .done => s.shreg
  else if rise s && edge s then (s.shreg <<< 1) ||| (BitVec.ofBool s.sdaIn).setWidth 8
  else s.shreg

/-- `dout'` (R31, R122). -/
def dout (s : State) : Bool :=
  if !active s then true
  else if s.sclIn then s.dout
  else (shreg s).getLsbD 7

/-- `oe'` (R32). -/
def oe (s : State) : Bool :=
  if !active s || start s || stop s then false
  else if service s then
    match s.pstate with
    | .checkAddress => addressed s
    | .dataRead => false
    | .dataReadAck => true
    | .dataSend => true
    | .dataSendAck => false
    | .done => false
  else s.oe

/-- `SBR'` (R33). -/
def sbr (s : State) : Byte :=
  if active s && service s && s.pstate == .dataReadAck then s.shreg else s.sbr

/-! ### Controller -/

/-- The verify of a settle state happens (R193). -/
def verifying (s : State) (c : CState) : Bool := s.cstate == c && s.stimer == 0

/-- The cause with which this cycle enters the halt, if it does (R222). -/
def halting (s : State) : Option HaltCause :=
  if s.cstate == .halt then none
  else if s.cfg.bothLimitsHalt && s.upAsserted && s.dnAsserted then some .bothLimits
  else if verifying s .h1Settle && s.cfg.maxUpHomingBackoff.ule s.hacc then some .upBudget
  else if verifying s .h1Settle && s.upAsserted then some .upStuck
  else if verifying s .h2Settle && s.cfg.maxHomingSteps.ule s.hacc then some .seekBudget
  else if verifying s .h2Settle && !s.dnAsserted then some .downMissing
  else if verifying s .h3Settle && s.cfg.maxBackoffSteps.ule s.hacc then some .backoffBudget
  else if verifying s .h3Settle && s.dnAsserted then some .downStuck
  else none

/-- The cycle enters the halt. -/
def halts (s : State) : Bool := (halting s).isSome

/-- The move the controller issues (R181, R184, R187, R190, R201). -/
def issued (s : State) : Option MoveCmd :=
  if halts s then none
  else
    match s.cstate with
    | .h1Check =>
      if s.upAsserted && s.hacc.ult s.cfg.maxUpHomingBackoff then
        some { dir := .down, spd := .p1, n := s.cfg.maxUpHomingBackoff - s.hacc }
      else none
    | .h2Start => if s.dnAsserted then none else some { dir := .down, spd := .p2, n := s.cfg.maxHomingSteps }
    | .h3Start => some { dir := .up, spd := .p3, n := s.cfg.maxBackoffSteps }
    | .h4Start => some { dir := .up, spd := .p4, n := s.cfg.extraBackoffSteps }
    | .lCompute =>
      let d := (s.target - s.position).toInt
      if d > 0 then some { dir := .up, spd := .cruise, n := BitVec.ofInt 32 d }
      else if d < 0 then some { dir := .down, spd := .cruise, n := BitVec.ofInt 32 (-d) }
      else none
    | _ => none

/-- The sequencer is idle in the pre-state. -/
def sqIdle (s : State) : Bool := s.sqPhase == .idle

/-- `cstate'`. -/
def cstate (s : State) : CState :=
  if halts s then .halt
  else
    match s.cstate with
    | .h1Check => if (issued s).isSome then .h1Move else .h1Settle
    | .h1Move => if sqIdle s then .h1Check else .h1Move
    | .h1Settle => if s.stimer == 0 then .h2Start else .h1Settle
    | .h2Start => if s.dnAsserted then .h2Settle else .h2Move
    | .h2Move => if sqIdle s then .h2Settle else .h2Move
    | .h2Settle => if s.stimer == 0 then .h3Start else .h2Settle
    | .h3Start => .h3Move
    | .h3Move => if sqIdle s then .h3Settle else .h3Move
    | .h3Settle => if s.stimer == 0 then .h4Start else .h3Settle
    | .h4Start => .h4Move
    | .h4Move => if sqIdle s then .h4Settle else .h4Move
    | .h4Settle => if s.stimer == 0 then .lCompute else .h4Settle
    | .lCompute => if s.target == s.position then .lTarget else .lMove
    | .lMove => if sqIdle s then .lTarget else .lMove
    | .lTarget => .lCompute
    | .halt => .halt

/-- `hacc'` (R42). -/
def hacc (s : State) : Word32 :=
  if halts s then s.hacc
  else
    match s.cstate with
    | .h1Move => if sqIdle s then s.hacc + s.sqTaken else s.hacc
    | .h1Settle => if s.stimer == 0 then 0 else s.hacc
    | .h2Start => if s.dnAsserted then 0 else s.hacc
    | .h2Move => if sqIdle s then s.sqTaken else s.hacc
    | .h2Settle => if s.stimer == 0 then 0 else s.hacc
    | .h3Move => if sqIdle s then s.sqTaken else s.hacc
    | .h3Settle => if s.stimer == 0 then 0 else s.hacc
    | _ => s.hacc

/-- `stimer'` (R43, R193): loaded on entering a settle state, counting down in it. -/
def stimer (s : State) : Word32 :=
  if halts s then s.stimer
  else
    match s.cstate with
    | .h1Check => if (issued s).isSome then s.stimer else s.cfg.settleCycles
    | .h2Start => if s.dnAsserted then s.cfg.settleCycles else s.stimer
    | .h2Move => if sqIdle s then s.cfg.settleCycles else s.stimer
    | .h3Move => if sqIdle s then s.cfg.settleCycles else s.stimer
    | .h4Move => if sqIdle s then s.cfg.settleCycles else s.stimer
    | .h1Settle => if s.stimer == 0 then 0 else s.stimer - 1
    | .h2Settle => if s.stimer == 0 then 0 else s.stimer - 1
    | .h3Settle => if s.stimer == 0 then 0 else s.stimer - 1
    | .h4Settle => if s.stimer == 0 then 0 else s.stimer - 1
    | _ => s.stimer

/-- Homing completes in this cycle (R192). -/
def homes (s : State) : Bool := !halts s && verifying s .h4Settle

/-- `position'` (R44). -/
def position (s : State) : Word32 :=
  if homes s then 0
  else if !halts s && s.cstate == .lMove && sqIdle s then
    (if s.lastDir == .up then s.position + s.sqTaken else s.position - s.sqTaken)
  else s.position

/-- The loop re-derives its target in this cycle (R203). -/
def retargets (s : State) : Bool := !halts s && s.cstate == .lTarget

/-- `target'` (R45). -/
def target (s : State) : Word32 := if retargets s then s.sbr.setWidth 32 * s.cfg.scale else s.target

/-! ### Sequencer -/

/-- The move the sequencer accepts (R91, R162). -/
def accepted (s : State) : Option MoveCmd := if sqIdle s then issued s else none

/-- A pulse ends in this cycle and is checked (R167); a halt keeps the sequencer from acting (R223). -/
def pulseEnds (s : State) : Bool := !halts s && s.sqPhase == .low && s.sqTimer == 0

/-- The burst ends with this pulse (R167). -/
def burstEnds (s : State) : Bool := changedM s || s.sqMax.ule (s.sqTaken + 1)

/-- `sq_phase'` (R36). -/
def sqPhase (s : State) : SqPhase :=
  if halts s then .idle
  else
    match s.sqPhase with
    | .idle =>
      match accepted s with
      | some m => if m.n == 0 then .idle else .high
      | none => .idle
    | .high => if s.sqTimer == 0 then .low else .high
    | .low => if s.sqTimer == 0 then (if burstEnds s then .idle else .high) else .low

/-- `sq_timer'` (R37). -/
def sqTimer (s : State) : Word32 :=
  if halts s then s.sqTimer
  else
    match s.sqPhase with
    | .idle =>
      match accepted s with
      | some m => if m.n == 0 then s.sqTimer else halfPeriod s.cfg m.spd - 1
      | none => s.sqTimer
    | .high => if s.sqTimer == 0 then s.sqHp - 1 else s.sqTimer - 1
    | .low => if s.sqTimer == 0 then (if burstEnds s then 0 else s.sqHp - 1) else s.sqTimer - 1

/-- `sq_taken'` (R38). -/
def sqTaken (s : State) : Word32 :=
  if (accepted s).isSome then 0 else if pulseEnds s then s.sqTaken + 1 else s.sqTaken

/-- `sq_max'` (R38). -/
def sqMax (s : State) : Word32 :=
  match accepted s with
  | some m => m.n
  | none => s.sqMax

/-- `sq_hp'` (R39). -/
def sqHp (s : State) : Word32 :=
  match accepted s with
  | some m => halfPeriod s.cfg m.spd
  | none => s.sqHp

/-- `last_dir'` (R40, R163). -/
def lastDir (s : State) : Dir :=
  match accepted s with
  | some m => m.dir
  | none => s.lastDir

/-- `changed'` (R35): the sequencer's write wins over the monitor's (R22). -/
def changed (s : State) : Bool :=
  if (accepted s).isSome then setC s else if pulseEnds s then false else changedM s

/-! ### The cycle -/

/-- The environment's next cycle: the next drive, or the present one held. -/
def nextDrive (s : State) : Drive := s.script.headD s.drive

/-- The post-state of a cycle with `rst = 0`. -/
def activeNext (s : State) : State where
  cfg := s.cfg
  pScl := s.sclIn
  pSda := s.sdaIn
  ss := ss s
  pstate := pstate s
  bbEn := bbEn s
  ovf := ovf s
  cnt := cnt s
  shreg := shreg s
  dout := dout s
  oe := oe s
  sbr := sbr s
  limUp := s.upAsserted
  limDn := s.dnAsserted
  changed := changed s
  sqPhase := sqPhase s
  sqTimer := sqTimer s
  sqMax := sqMax s
  sqTaken := sqTaken s
  sqHp := sqHp s
  lastDir := lastDir s
  cstate := cstate s
  hacc := hacc s
  stimer := stimer s
  position := position s
  target := target s
  homed := s.homed || homes s
  hb := s.hb != retargets s
  haltCause := (halting s).or s.haltCause
  drive := nextDrive s
  script := s.script.tail
  wires := Wires.rest

/-- The post-state of a cycle (R22). -/
def next (s : State) : State :=
  if s.drive.rst then
    State.resetOf s.cfg s.sclIn s.sdaIn s.upAsserted s.dnAsserted (nextDrive s) s.script.tail
  else activeNext s

end Sys2Proof.Reference
end

