-- ==== Sys2Proof/Safety.lean ====
section
/-! DEFINITION. The terms statements are made in: groups of controller states, runs, what an environment may do,
the invariants of the reachable states (spec/10_state.md R54), and the two halves of the block as views. -/

namespace Sys2Proof.Machine

/-! ### Controller states -/

/-- The states that wait for a burst (10_state.md R54 f). -/
def moving : CState → Bool
  | .h1Move => true
  | .h2Move => true
  | .h3Move => true
  | .h4Move => true
  | .lMove => true
  | _ => false

/-- The states of the position loop (10_state.md R54 g). -/
def inLoop : CState → Bool
  | .lCompute => true
  | .lMove => true
  | .lTarget => true
  | _ => false

/-- The settle states (44_homing.md R193). -/
def settling : CState → Bool
  | .h1Settle => true
  | .h2Settle => true
  | .h3Settle => true
  | .h4Settle => true
  | _ => false

/-! ### Runs -/

/-- The state after `k` cycles, none if a cycle stopped. -/
def after : Nat → State → Option State
  | 0, s => some s
  | k + 1, s =>
    match step s with
    | .next t => after k t
    | .fault _ => none
    | .refused _ => none

/-- Execute operations one after the other. -/
def execAll : List Instr → State → Result
  | [], s => .next s
  | i :: is, s => Result.andThen (exec i s) (execAll is)

/-- The state an outcome leads to, if it does. -/
def Result.state? (r : Result) : Option State :=
  match r with
  | .next s => some s
  | .fault _ => none
  | .refused _ => none

/-! ### Environments -/

/-- What the environment does in the first `k` cycles of a run from `s`, but for repeats of the last drive, which
is held when the script is used up. -/
def State.drives (s : State) (k : Nat) : List Drive := (s.drive :: s.script).take k

/-- No reset in the first `k` cycles. -/
def NoReset (s : State) (k : Nat) : Prop := ∀ d ∈ s.drives k, d.rst = false

/-- The up-switch level of a drive after polarity. -/
def Drive.up (c : Config) (d : Drive) : Bool := d.limUpPin == c.upActiveLevel

/-- The down-switch level of a drive after polarity. -/
def Drive.dn (c : Config) (d : Drive) : Bool := d.limDnPin == c.dnActiveLevel

/-- No reset and no both-limits halt in the first `k` cycles (60_exceptions.md R222). -/
def Calm (s : State) (k : Nat) : Prop :=
  ∀ d ∈ s.drives k, d.rst = false ∧ (s.cfg.bothLimitsHalt && d.up s.cfg && d.dn s.cfg) = false

/-- What keeps the bus gate open in the first `k` cycles (41_bus_framing.md R110): it is open in homing if the block
is homing, and open in HALT unless no halt can be entered, as in the loop without both limits asserted. -/
def State.gateStaysOpen (s : State) (k : Nat) : Prop :=
  (s.cstate.homing = true → s.cfg.busActiveDuringHoming = true) ∧
  (s.cfg.busActiveDuringHalt = true ∨ (inLoop s.cstate = true ∧ Calm s k))

/-- No switch flips in the first `k` cycles: the levels stay those of the limit registers. -/
def Steady (s : State) (k : Nat) : Prop :=
  ∀ d ∈ s.drives k, d.up s.cfg = s.limUp ∧ d.dn s.cfg = s.limDn

/-! ### Invariants -/

/-- The invariants of 10_state.md R54, clause by clause. Clause (c), `pstate` is one of six codes, holds by its
type. -/
structure State.Sound (s : State) : Prop where
  /-- (a) -/
  ovf_enabled : s.ovf = true → s.bbEn = true
  /-- (b) -/
  settle_quiet : s.ss = .settle → s.bbEn = false ∧ s.ovf = false ∧ s.oe = false
  /-- (d) -/
  busy_burst : s.sqPhase ≠ .idle → s.sqTaken.toNat < s.sqMax.toNat ∧ 1 ≤ s.sqHp.toNat
  /-- (e) -/
  halt_idle : s.cstate = .halt → s.sqPhase = .idle ∧ s.stepOut = false
  /-- (f) -/
  busy_waits : s.sqPhase ≠ .idle → moving s.cstate = true
  /-- (g) -/
  loop_ranges : inLoop s.cstate = true →
    s.homed = true ∧
    0 ≤ s.position.toInt ∧ s.position.toInt ≤ 255 * (s.cfg.scale.toNat : Int) ∧
    0 ≤ s.target.toInt ∧ s.target.toInt ≤ 255 * (s.cfg.scale.toNat : Int)

/-- What is added to R54 so that every step keeps it: the burst of a waiting state is the one that was issued, the
counter follows the clock line, SDA is not pulled low where it was seen high with SCL high. -/
structure State.Inv (s : State) : Prop extends State.Sound s where
  /-- The pulse timer lies within the half-period (43_step_sequencer.md R172). -/
  timer_within : s.sqPhase ≠ .idle → s.sqTimer.toNat < s.sqHp.toNat
  /-- No more steps are taken than requested (43_step_sequencer.md R167). -/
  taken_within : moving s.cstate = true → s.sqTaken.toNat ≤ s.sqMax.toNat
  /-- Phase 1 stays within its budget (44_homing.md R182). -/
  up_budget : s.cstate = .h1Check ∨ s.cstate = .h1Settle → s.hacc.toNat ≤ s.cfg.maxUpHomingBackoff.toNat
  /-- The burst of phase 1 is for the budget left (44_homing.md R181). -/
  up_burst : s.cstate = .h1Move → s.hacc.toNat + s.sqMax.toNat = s.cfg.maxUpHomingBackoff.toNat
  /-- Position and target stay 0 during homing (44_homing.md R195), and `homed` is not yet set. -/
  homing_zero : s.cstate.homing = true → s.position = 0 ∧ s.target = 0 ∧ s.homed = false
  /-- The loop's burst goes from the position to the target (45_position_loop.md R201). -/
  loop_burst : s.cstate = .lMove →
    (s.lastDir = .up ∧ s.target.toInt - s.position.toInt = s.sqMax.toNat) ∨
    (s.lastDir = .down ∧ s.position.toInt - s.target.toInt = s.sqMax.toNat)
  /-- The cause is recorded exactly in HALT (10_state.md R48). -/
  cause_in_halt : s.cstate = .halt ↔ s.haltCause ≠ none
  /-- An event is pending only after an SCL fall (41_bus_framing.md R129). -/
  event_low : s.ovf = true → s.pScl = false ∧ s.cnt = 0
  /-- While edges are counted, the count is odd exactly when SCL was high (41_bus_framing.md R129). -/
  count_parity : s.bbEn = true → s.ovf = false → s.cnt.getLsbD 0 = s.pScl
  /-- SDA seen high with SCL high is not pulled low by the block (41_bus_framing.md R130). -/
  sda_released : s.pScl = true → s.pSda = true → s.sdaDl = false

/-! ### The two halves of the block -/

/-- The registers of the monitor, the sequencer and the controller. -/
structure MotionView where
  limUp : Bool
  limDn : Bool
  changed : Bool
  sqPhase : SqPhase
  sqTimer : Word32
  sqMax : Word32
  sqTaken : Word32
  sqHp : Word32
  lastDir : Dir
  cstate : CState
  hacc : Word32
  stimer : Word32
  position : Word32
  target : Word32
  homed : Bool
  hb : Bool
  haltCause : Option HaltCause
deriving DecidableEq, Repr

/-- The motion half of a state. -/
def State.motion (s : State) : MotionView where
  limUp := s.limUp
  limDn := s.limDn
  changed := s.changed
  sqPhase := s.sqPhase
  sqTimer := s.sqTimer
  sqMax := s.sqMax
  sqTaken := s.sqTaken
  sqHp := s.sqHp
  lastDir := s.lastDir
  cstate := s.cstate
  hacc := s.hacc
  stimer := s.stimer
  position := s.position
  target := s.target
  homed := s.homed
  hb := s.hb
  haltCause := s.haltCause

/-- The registers of the bus engine. -/
structure BusView where
  pScl : Bool
  pSda : Bool
  ss : SsState
  pstate : PState
  bbEn : Bool
  ovf : Bool
  cnt : EdgeCount
  shreg : Byte
  dout : Bool
  oe : Bool
  sbr : Byte
deriving DecidableEq, Repr

/-- The bus half of a state. -/
def State.bus (s : State) : BusView where
  pScl := s.pScl
  pSda := s.pSda
  ss := s.ss
  pstate := s.pstate
  bbEn := s.bbEn
  ovf := s.ovf
  cnt := s.cnt
  shreg := s.shreg
  dout := s.dout
  oe := s.oe
  sbr := s.sbr

/-- The motion outputs of R23. -/
def State.motionOutputs (s : State) : Bool × Bool × Bool × Bool := (s.stepOut, s.dirOut, s.faultOut, s.hbOut)

/-- The bus is idle and the engine waits for a start: both lines high and released, nothing pending. -/
def State.busIdle (s : State) : Prop :=
  s.pScl = true ∧ s.pSda = true ∧ s.ss = .idle ∧ s.bbEn = false ∧ s.ovf = false ∧ s.oe = false

end Sys2Proof.Machine
end

