-- ==== Sys2Proof/Script.lean ====
section
/-! DEFINITION. The transaction scripts of spec/30_encoding.md R94 and R95, and the drives of a master that plays
them. The master is no part of the block (00_scope.md R5); this one is open-loop and holds every SCL level for two
cycles, so that the one-cycle clock stretch falls into its own SCL low period (41_bus_framing.md R127). DESIGN
CHOICE, safe (log 20): the block answers any drives. -/

namespace Sys2Proof.Machine

/-- The items of a script (R94). -/
inductive ScriptItem where
  /-- `S`: a start or repeated start. -/
  | start
  /-- `P`: a stop. -/
  | stop
  /-- `W b`: send a byte, most significant bit first, then clock the ninth bit with SDA released. -/
  | write (b : Byte)
  /-- `R A` (true) or `R N` (false): clock eight bits in, then send ACK or NACK. -/
  | read (ack : Bool)
  /-- `IDLE k`: both lines released for `k` cycles. -/
  | idle (k : Nat)
  /-- `PINS u d`: from now on the mechanism holds these pin levels. -/
  | pins (up dn : Bool)
  /-- `RUN k`: `k` cycles with the bus idle. -/
  | run (k : Nat)
deriving DecidableEq, Repr

/-- `WRITE a, b` (R95). -/
def scriptWrite (a : BusAddr) (b : Byte) : List ScriptItem :=
  [.start, .write (addrByteBits a false), .write b, .stop]

/-- `READ a` (R95). -/
def scriptRead (a : BusAddr) : List ScriptItem := [.start, .write (addrByteBits a true), .read false, .stop]

/-- `READ_ACK a` (R95). -/
def scriptReadAck (a : BusAddr) : List ScriptItem := [.start, .write (addrByteBits a true), .read true, .stop]

/-- `PROBE a` (R95). -/
def scriptProbe (a : BusAddr) : List ScriptItem := [.start, .write (addrByteBits a false), .stop]

/-- A cycle of the master: what it does with SCL and SDA, the pins as given. -/
def masterCycle (up dn scl sda : Bool) : Drive :=
  { rst := false, scl := scl, sda := sda, limUpPin := up, limDnPin := dn }

/-- One bit: SDA set with SCL low, then SCL released, two cycles each. -/
def masterBit (up dn b : Bool) : List Drive :=
  [masterCycle up dn false b, masterCycle up dn false b, masterCycle up dn true b, masterCycle up dn true b]

/-- The eight bits of a byte, most significant first (20_memory.md R65). -/
def masterByte (up dn : Bool) (b : Byte) : List Drive :=
  masterBit up dn (b.getLsbD 7) ++ masterBit up dn (b.getLsbD 6) ++ masterBit up dn (b.getLsbD 5) ++
    masterBit up dn (b.getLsbD 4) ++ masterBit up dn (b.getLsbD 3) ++ masterBit up dn (b.getLsbD 2) ++
    masterBit up dn (b.getLsbD 1) ++ masterBit up dn (b.getLsbD 0)

/-- The drives of one item; `low` says that the master holds SCL low when it begins, which makes a start a
repeated one. -/
def itemDrives (up dn low : Bool) : ScriptItem → List Drive
  | .start =>
    (if low then
      [masterCycle up dn false true, masterCycle up dn false true, masterCycle up dn true true]
    else []) ++
      [masterCycle up dn true true, masterCycle up dn true false, masterCycle up dn true false,
        masterCycle up dn false false]
  | .stop =>
    [masterCycle up dn false false, masterCycle up dn false false, masterCycle up dn true false,
      masterCycle up dn true false, masterCycle up dn true true, masterCycle up dn true true]
  | .write b => masterByte up dn b ++ masterBit up dn true
  | .read ack => masterByte up dn 0xFF ++ masterBit up dn (!ack)
  | .idle k => List.replicate k (masterCycle up dn true true)
  | .pins _ _ => []
  | .run k => List.replicate k (masterCycle up dn true true)

/-- Whether the master holds SCL low after an item. -/
def lowAfter (low : Bool) : ScriptItem → Bool
  | .start => true
  | .write _ => true
  | .read _ => true
  | .stop => false
  | .idle _ => false
  | .run _ => false
  | .pins _ _ => low

/-- The drives of a script from given pin levels and SCL state. -/
def scriptDrives (up dn low : Bool) : List ScriptItem → List Drive
  | [] => []
  | .pins u d :: is => scriptDrives u d low is
  | i :: is => itemDrives up dn low i ++ scriptDrives up dn (lowAfter low i) is

end Sys2Proof.Machine
end

