-- ==== Sys2Proof/Certificates/Slice0/Obligations.lean ====
section
/-! DEFINITION. The statements about TWS-STEP for the provers. A statement about a cycle has as its conclusion that
`step` answers a next state and what that state holds; "log n" is notes/assumptions/n.md. -/

open Sys2Proof Sys2Proof.Machine

/-! ### Encoding -/

/-- Words written out from the tables of R80 to R89 decode to the operations they stand for. The slots, and the place
of MOVE_CMD above the selector in the last word, are the model's choice (log 11). -/
def Obligations.WrittenOutWordsDecode : Prop :=
  decode Config.p0 { slot := .startStop, bits := 0b01110 } = .ok (.startDetect .idle) ∧
  decode Config.p0 { slot := .startStop, bits := 0b11011 } = .ok (.stopDetect .settle) ∧
  decode Config.p0 { slot := .line, bits := 0b0110 } = .ok (.sclRise true false) ∧
  decode Config.p0 { slot := .address, bits := 0x43 } = .ok (.caMatchR 0x21) ∧
  decode Config.p0 { slot := .address, bits := 0x44 } = .ok (.caNomatch 0x22 false) ∧
  decode Config.p0 { slot := .service, bits := 0b010 } = .ok .dataReadAck ∧
  decode Config.p0 { slot := .sequencer, bits := 0b101 } = .ok .seqPulseEnd ∧
  decode Config.p0 { slot := .controller, bits := 0b1110 } = .ok .lTarget ∧
  decode Config.p0 { slot := .moveIssued, bits := 0xC0000002A01 } =
    .ok (.seqStart true { dir := .up, spd := .cruise, n := 42 })

/-- Decoding an encoded well-formed operation gives it back, with every operand at every value. -/
def Obligations.DecodeOfEncode : Prop :=
  ∀ (c : Config) (i : Instr), i.wellFormed c = true → decode c (encode i) = .ok i

/-- A word that decodes is the encoding of a well-formed operation: no word is read with a bit dropped. -/
def Obligations.EncodeOfDecode : Prop :=
  ∀ (c : Config) (o : OpWord) (i : Instr), decode c o = .ok i → i.wellFormed c = true ∧ encode i = o

/-- Every address byte selects one of the five cases of R83 by its address and read/write bit; with `DEV_ADDR` 0 the
bytes of CA_BCAST decode as CA_MATCH, which acts alike (log 6, the model's choice). -/
def Obligations.EveryAddressByteIsOneCase : Prop :=
  (∀ (c : Config) (a : BusAddr) (rw : Bool),
    decode c (opWord .address (addrByteBits a rw)) = .ok
      (if a = c.devAddr then (if rw then .caMatchR a else .caMatchW a)
        else if a = 0 then (if rw then .caBcastR else .caBcastW)
        else .caNomatch a rw)) ∧
  (∀ b : Byte, ∃ (a : BusAddr) (rw : Bool), b = addrByteBits a rw) ∧
  ∀ (d : BusAddr) (s : State),
    exec (.caMatchW d) s = exec .caBcastW s ∧ exec (.caMatchR d) s = exec .caBcastR s

/-- The line sample selects exactly one bus event (R84) and, with `ss`, the start/stop unit's action, START and STOP
first (R85). -/
def Obligations.EveryLineSampleIsOneEvent : Prop :=
  ∀ (c : Config) (ss : SsState) (pScl pSda scl sda : Bool),
    decode c (opWord .line (lineBits pScl pSda scl sda)) =
      (match pScl, scl with
        | false, true => .ok (.sclRise pSda sda)
        | true, false => .ok (.sclFall pSda sda)
        | false, false => .ok (.sclLow pSda sda)
        | true, true => if pSda = sda then .ok (.sclHigh sda) else .error .startOrStop) ∧
    decode c (opWord .startStop (ssCtxBits ss (lineBits pScl pSda scl sda))) =
      (if pScl && pSda && scl && !sda then .ok (.startDetect ss)
        else if pScl && !pSda && scl && sda then .ok (.stopDetect ss)
        else if ss = .settle then (if scl then .ok (.settleWait pScl pSda sda) else .ok (.startCommit pScl pSda sda))
        else .error .noAction)

/-- Reserved codes and bits outside a format select nothing (R80, R92); that such words exist and are rejected by name
is the model's choice (log 11). -/
def Obligations.ReservedWordsAreRejected : Prop :=
  ∀ c : Config,
    (∀ w : BitVec 3, 6 ≤ w.toNat → decode c (opWord .service w) = .error .reservedPState) ∧
    (∀ w : BitVec 3, 6 ≤ w.toNat → decode c (opWord .sequencer w) = .error .reservedSqPhase) ∧
    (∀ (dir tz : Bool) (spd : BitVec 3) (n : Word32), 5 ≤ spd.toNat →
      decode c { slot := .moveIssued,
                 bits := ((BitVec.ofBool dir ++ spd ++ n) ++
                   (sqCtxBits .idle tz).setWidth 8).setWidth 48 } = .error .reservedSpeed) ∧
    (∀ o : OpWord, 2 ^ o.slot.wordWidth ≤ o.bits.toNat → decode c o = .error .strayBits)

/-! ### The cycle -/

/-- Every word a cycle selects decodes to a well-formed operation, the sequencer's too. -/
def Obligations.SelectedWordsDecode : Prop :=
  ∀ s : State,
    (∀ o ∈ selections (beginCycle s), ∃ i, decode s.cfg o = .ok i ∧ i.wellFormed s.cfg = true) ∧
    ∀ c : State, ∀ o ∈ sequencerSelection (beginCycle s) c,
      ∃ i, decode s.cfg o = .ok i ∧ i.wellFormed s.cfg = true

/-- A step runs the decoded operations: those its pre-state selects, in the order of R22, then the sequencer's on what
they left, then the end of the cycle. That they run one after the other (log 7), that the output latch and the sample
registers are written after the sequencer, where R128 has them in the bus step (log 8), and that the environment's
next drive is then taken (log 3) are the model's choices. -/
def Obligations.StepRunsTheDecodedOperations : Prop :=
  ∀ (s c c' : State) (ops sq : List Instr),
    s.drive.rst = false →
    List.Forall₂ (fun o i => decode s.cfg o = .ok i) (selections (beginCycle s)) ops →
    execAll ops (beginCycle s) = .next c →
    List.Forall₂ (fun o i => decode s.cfg o = .ok i) (sequencerSelection (beginCycle s) c) sq →
    execAll sq c = .next c' →
    step s = .next (endCycle c')

/-- Every operation completes in every state. -/
def Obligations.EveryOperationCompletes : Prop :=
  ∀ (i : Instr) (s : State), ∃ t, exec i s = .next t

/-- Running the selected operations one after the other gives every register the value the rules give it as a function
of the pre-state and the inputs alone (R11, R22, R128, R229). -/
def Obligations.StepIsThePreStateCycle : Prop := ∀ s : State, step s = .next (Reference.next s)

/-- A cycle with `rst = 1` leaves the reset state of R53, whatever the pre-state, and releases every output. -/
def Obligations.ResetGivesTheResetState : Prop :=
  (∀ s : State, exec .reset s =
    .next (State.resetOf s.cfg s.wires.scl s.wires.sda s.upAsserted s.dnAsserted s.drive s.script)) ∧
  ∀ s : State, s.drive.rst = true → ∃ t, step s = .next t ∧
    t.pScl = s.sclIn ∧ t.pSda = s.sdaIn ∧ t.ss = .idle ∧ t.pstate = .checkAddress ∧ t.bbEn = false ∧
    t.ovf = false ∧ t.cnt = 0 ∧ t.shreg = 0 ∧ t.dout = true ∧ t.oe = false ∧ t.sbr = s.cfg.sbrInit ∧
    t.limUp = (s.drive.limUpPin == s.cfg.upActiveLevel) ∧
    t.limDn = (s.drive.limDnPin == s.cfg.dnActiveLevel) ∧ t.changed = false ∧
    t.sqPhase = .idle ∧ t.sqTimer = 0 ∧ t.sqMax = 0 ∧ t.sqTaken = 0 ∧ t.sqHp = 1 ∧ t.lastDir = .down ∧
    t.cstate = .h1Check ∧ t.hacc = 0 ∧ t.stimer = 0 ∧ t.position = 0 ∧ t.target = 0 ∧ t.homed = false ∧
    t.hb = false ∧ t.haltCause = none ∧ t.cfg = s.cfg ∧
    t.sclDl = false ∧ t.sdaDl = false ∧ t.stepOut = false ∧ t.dirOut = !s.cfg.dirUpLevel ∧
    t.faultOut = !s.cfg.faultActiveLevel ∧ t.hbOut = false

/-- Every cycle completes: no state makes the machine fault or refuse; and no cycle changes the configuration
(R50). -/
def Obligations.EveryCycleCompletes : Prop := ∀ s : State, ∃ t, step s = .next t ∧ t.cfg = s.cfg

/-! ### Limit monitor -/

/-- What LIMIT_SAMPLE, TAKE_CHANGED and BURST_CLEAR do, and that they change nothing else (R101 to R105). -/
def Obligations.MonitorOperations : Prop :=
  ∀ s : State,
    (∀ upN dnN : Bool,
      exec (.limitSample upN dnN) s = .next { s with
        limUp := upN, limDn := dnN
        changed := s.changed || (upN != s.limUp || dnN != s.limDn)
        wires := { s.wires with
          upN := upN, dnN := dnN
          setC := (upN != s.limUp || dnN != s.limDn)
          changedM := s.changed || (upN != s.limUp || dnN != s.limDn) } }) ∧
    exec .takeChanged s =
      .next { s with changed := false, wires := { s.wires with took := s.wires.changedM } } ∧
    ∀ tz : Bool, exec (.burstClear tz) s = .next { s with changed := s.wires.setC }

/-- In every cycle without reset, HALT included, the limit registers take the pins after polarity (R101). -/
def Obligations.LimitRegistersFollowThePins : Prop :=
  ∀ s : State, s.drive.rst = false → ∃ t, step s = .next t ∧
    t.limUp = (s.drive.limUpPin == s.cfg.upActiveLevel) ∧
    t.limDn = (s.drive.limDnPin == s.cfg.dnActiveLevel)

/-- The `changed` flag over a cycle (R102, R104, R105): a flip sets it, only a pulse end and a burst start clear it,
and a flip in the accept cycle counts as after the clear. -/
def Obligations.ChangedFlagOverACycle : Prop :=
  ∀ s : State, s.drive.rst = false → ∃ t, step s = .next t ∧
    (let flip := s.upAsserted != s.limUp || s.dnAsserted != s.limDn
     let accept := s.sqPhase = .idle ∧ moving s.cstate = false ∧ moving t.cstate = true
     let pulseEnd := s.sqPhase = .low ∧ s.sqTimer = 0 ∧ (t.cstate = .halt → s.cstate = .halt)
     (accept → t.changed = flip) ∧
     (pulseEnd → t.changed = false) ∧
     (¬accept → ¬pulseEnd → t.changed = (s.changed || flip)))

/-! ### Bus framing -/

/-- What the gate, the start/stop unit and the quiet line events do, and that they change nothing else (R110, R111,
R113 to R116, R120, R121). -/
def Obligations.GateAndStartStopOperations : Prop :=
  ∀ s : State,
    (∀ c : CState, exec (.busGate c) s = .next { s with wires := { s.wires with
      busActive := !(c.homing && !s.cfg.busActiveDuringHoming) && !(c == .halt && !s.cfg.busActiveDuringHalt) } }) ∧
    (∀ c : CState, exec (.busGated c) s = .next { s with
      ss := .idle, pstate := .checkAddress, bbEn := false, ovf := false, cnt := 0, shreg := 0, dout := true
      oe := false, pScl := s.wires.scl, pSda := s.wires.sda }) ∧
    (∀ ss : SsState, exec (.startDetect ss) s = .next { s with
      pstate := .checkAddress, bbEn := false, ovf := false, oe := false, ss := .settle }) ∧
    (∀ ss : SsState, exec (.stopDetect ss) s = .next { s with
      bbEn := false, ovf := false, oe := false, ss := .idle }) ∧
    (∀ x y z : Bool, exec (.startCommit x y z) s = .next { s with
      cnt := 0, ovf := false, bbEn := true, ss := .idle }) ∧
    (∀ x y z : Bool, exec (.settleWait x y z) s = .next s) ∧
    (∀ x y : Bool, exec (.sclLow x y) s = .next s) ∧
    ∀ a : Bool, exec (.sclHigh a) s = .next s

/-- SCL edges (R117 to R119, R125): with `bb_en = 1` and `ovf = 0` a rise shifts SDA into bit 0 and either edge
counts, the sixteenth setting `ovf`; otherwise nothing changes. Nothing else changes. -/
def Obligations.SclEdgeOperations : Prop :=
  ∀ (s : State) (x sda : Bool),
    exec (.sclRise x sda) s =
      (if s.bbEn = true ∧ s.ovf = false then
        .next { s with
          shreg := BitVec.ofNat 8 (2 * s.shreg.toNat + sda.toNat)
          cnt := BitVec.ofNat 4 (s.cnt.toNat + 1), ovf := decide (s.cnt.toNat = 15) }
      else .next s) ∧
    exec (.sclFall x sda) s =
      (if s.bbEn = true ∧ s.ovf = false then
        .next { s with cnt := BitVec.ofNat 4 (s.cnt.toNat + 1), ovf := decide (s.cnt.toNat = 15) }
      else .next s) ∧
    ∀ y : Bool, exec (.count x y sda) s =
      .next { s with cnt := BitVec.ofNat 4 (s.cnt.toNat + 1), ovf := s.ovf || decide (s.cnt.toNat = 15) }

/-- Sixteen counted edges receive a byte most significant bit first, and two from the preset 14 an acknowledge bit
(R65, R118). -/
def Obligations.SixteenEdgesReceiveAByte : Prop :=
  ∀ s : State, s.bbEn = true → s.ovf = false →
    (∀ b : Byte, s.cnt = 0 →
      execAll ([7, 6, 5, 4, 3, 2, 1, 0].flatMap fun k =>
          [.sclRise (b.getLsbD k) (b.getLsbD k), .sclFall (b.getLsbD k) (b.getLsbD k)]) s =
        .next { s with shreg := b, cnt := 0, ovf := true }) ∧
    ∀ a : Bool, s.cnt = 14 →
      ∃ t, execAll [.sclRise a a, .sclFall a a] s = .next t ∧ t.cnt = 0 ∧ t.ovf = true

/-- While a byte is sent, after the i-th bit the shift register's top bit is bit `7 - i` of the byte, whatever the
line showed (R122). -/
def Obligations.SentBitsAreTheBytesBits : Prop :=
  ∀ (s : State) (line : List Bool), s.bbEn = true → s.ovf = false → s.cnt = 0 → line.length ≤ 7 →
    ∃ t, execAll (line.flatMap fun b => [.sclRise b b, .sclFall b b]) s = .next t ∧
      t.shreg.getLsbD 7 = s.shreg.getLsbD (7 - line.length) ∧ t.ovf = false

/-- With the gate closed, a cycle puts every bus engine register but SBR at its reset value and the samples track the
lines (R110, R111); SBR keeps its value and both lines are released. -/
def Obligations.ClosedGateHoldsTheBusEngine : Prop :=
  ∀ s : State, s.drive.rst = false →
    ((s.cstate.homing = true ∧ s.cfg.busActiveDuringHoming = false) ∨
      (s.cstate = .halt ∧ s.cfg.busActiveDuringHalt = false)) →
    ∃ t, step s = .next t ∧
      t.ss = .idle ∧ t.pstate = .checkAddress ∧ t.bbEn = false ∧ t.ovf = false ∧ t.cnt = 0 ∧ t.shreg = 0 ∧
      t.dout = true ∧ t.oe = false ∧ t.pScl = s.sclIn ∧ t.pSda = s.sdaIn ∧ t.sbr = s.sbr ∧
      t.sclDl = false ∧ t.sdaDl = false

/-- The start/stop unit over a cycle with the gate open (R113 to R116), whatever else the bus engine does in it. -/
def Obligations.StartStopUnitOverACycle : Prop :=
  ∀ s : State, s.drive.rst = false → s.cfg.busActive s.cstate = true →
    ∃ t, step s = .next t ∧
      (if s.pScl && s.sclIn && s.pSda && !s.sdaIn then
        t.pstate = .checkAddress ∧ t.bbEn = false ∧ t.ovf = false ∧ t.oe = false ∧ t.ss = .settle ∧
          t.sbr = s.sbr ∧ t.cnt = s.cnt ∧ t.shreg = s.shreg
      else if s.pScl && s.sclIn && !s.pSda && s.sdaIn then
        t.pstate = s.pstate ∧ t.bbEn = false ∧ t.ovf = false ∧ t.oe = false ∧ t.ss = .idle ∧
          t.sbr = s.sbr ∧ t.cnt = s.cnt ∧ t.shreg = s.shreg
      else if s.ss = .settle then
        if s.sclIn then t.ss = .settle else t.cnt = 0 ∧ t.ovf = false ∧ t.bbEn = true ∧ t.ss = .idle
      else t.ss = .idle)

/-- The output latch over a cycle with the gate open: transparent while SCL is sampled low, on the shift register
after framing and service, and held while SCL is high (R122). -/
def Obligations.OutputLatchOverACycle : Prop :=
  ∀ s : State, s.drive.rst = false → s.cfg.busActive s.cstate = true →
    ∃ t, step s = .next t ∧ t.dout = (if s.sclIn then s.dout else t.shreg.getLsbD 7)

/-- A pending event holds SCL low in its cycle and for no longer (R127, R141). -/
def Obligations.ClockStretchLastsOneCycle : Prop :=
  ∀ s : State, s.Inv → s.drive.rst = false → s.sclDl = true →
    s.sclIn = false ∧ ∃ t, step s = .next t ∧ t.sclDl = false

/-- An event arises only from an SCL fall, and in its service cycle SCL is low in both samples, so that no edge, start
or stop falls into it (the inference R129). -/
def Obligations.ServiceCyclesAreQuiet : Prop :=
  ∀ s : State, s.Inv → s.drive.rst = false → ∃ t, step s = .next t ∧
    (s.ovf = false → t.ovf = true → s.pScl = true ∧ s.sclIn = false) ∧
    (s.ovf = true → s.sclIn = false ∧ s.pScl = false ∧
      (beginCycle s).startSeen = false ∧ (beginCycle s).stopSeen = false ∧
      (beginCycle s).sclRose = false ∧ (beginCycle s).sclFell = false)

/-- With the gate open and SCL sampled high the block does not change its SDA drive, so it never makes a start or a
stop itself (the inference R130). -/
def Obligations.SdaDriveHoldsWhileSclIsHigh : Prop :=
  ∀ s : State, s.Inv → s.drive.rst = false → s.cfg.busActive s.cstate = true → s.sclIn = true →
    ∃ t, step s = .next t ∧ t.sdaDl = s.sdaDl

/-- With the lines still and nothing pending the bus engine holds its state, but for the transparent output latch (the
inference R132). -/
def Obligations.StalledBusHolds : Prop :=
  ∀ s : State, s.drive.rst = false → s.cfg.busActive s.cstate = true →
    s.ovf = false → s.ss = .idle → s.pScl = s.sclIn → s.pSda = s.sdaIn →
    ∃ t, step s = .next t ∧
      t.bus = { s.bus with dout := if s.pScl then s.dout else s.shreg.getLsbD 7 }

/-! ### Protocol services -/

/-- What the ten services do, and that they change nothing else (R142 to R149). -/
def Obligations.ServiceOperations : Prop :=
  ∀ s : State,
    (∀ d : BusAddr, exec (.caMatchW d) s = .next { s with
      shreg := 0, oe := true, cnt := 14, ovf := false, pstate := .dataRead }) ∧
    (∀ d : BusAddr, exec (.caMatchR d) s = .next { s with
      shreg := 0, oe := true, cnt := 14, ovf := false, pstate := .dataSend }) ∧
    exec .caBcastW s = .next { s with shreg := 0, oe := true, cnt := 14, ovf := false, pstate := .dataRead } ∧
    exec .caBcastR s = .next { s with shreg := 0, oe := true, cnt := 14, ovf := false, pstate := .dataSend } ∧
    (∀ (a : BusAddr) (rw : Bool), exec (.caNomatch a rw) s = .next { s with
      bbEn := false, oe := false, ovf := false, pstate := .checkAddress }) ∧
    exec .dataRead s = .next { s with oe := false, cnt := 0, ovf := false, pstate := .dataReadAck } ∧
    exec .dataReadAck s = .next { s with
      sbr := s.shreg, shreg := 0, oe := true, cnt := 14, ovf := false, pstate := .done } ∧
    exec .dataSend s = .next { s with
      shreg := s.wires.sbr, oe := true, cnt := 0, ovf := false, pstate := .dataSendAck } ∧
    exec .dataSendAck s = .next { s with oe := false, cnt := 14, ovf := false, pstate := .done } ∧
    exec .done s = .next { s with oe := false, bbEn := false, ovf := false }

/-- The CHECK_ADDRESS service over a cycle (R142 to R144): a match is acknowledged and goes on by the read/write bit,
any other address is left unacknowledged until the next start. SBR is untouched. -/
def Obligations.AddressServiceOverACycle : Prop :=
  ∀ s : State, s.drive.rst = false → s.cfg.busActive s.cstate = true →
    s.ovf = true → s.bbEn = true → s.ss = .idle → s.pstate = .checkAddress →
    ∃ t, step s = .next t ∧ t.ovf = false ∧ t.sclDl = false ∧ t.sbr = s.sbr ∧ t.ss = .idle ∧
      (if s.shreg.extractLsb' 1 7 = s.cfg.devAddr ∨ s.shreg.extractLsb' 1 7 = 0 then
        t.shreg = 0 ∧ t.oe = true ∧ t.cnt = 14 ∧ t.bbEn = true ∧ t.dout = false ∧ t.sdaDl = true ∧
          t.pstate = (if s.shreg.getLsbD 0 then .dataSend else .dataRead)
      else
        t.bbEn = false ∧ t.oe = false ∧ t.sdaDl = false ∧ t.pstate = .checkAddress ∧ t.shreg = s.shreg ∧
          t.cnt = s.cnt)

/-- The other five services over a cycle (R145 to R149). -/
def Obligations.DataServicesOverACycle : Prop :=
  ∀ s : State, s.drive.rst = false → s.cfg.busActive s.cstate = true →
    s.ovf = true → s.bbEn = true → s.ss = .idle →
    ∃ t, step s = .next t ∧ t.ovf = false ∧ t.sclDl = false ∧
      (match s.pstate with
        | .checkAddress => True
        | .dataRead => t.oe = false ∧ t.sdaDl = false ∧ t.cnt = 0 ∧ t.pstate = .dataReadAck ∧
            t.shreg = s.shreg ∧ t.bbEn = true ∧ t.sbr = s.sbr
        | .dataReadAck => t.sbr = s.shreg ∧ t.shreg = 0 ∧ t.oe = true ∧ t.cnt = 14 ∧ t.pstate = .done ∧
            t.bbEn = true ∧ t.sdaDl = true
        | .dataSend => t.shreg = s.sbr ∧ t.oe = true ∧ t.cnt = 0 ∧ t.pstate = .dataSendAck ∧ t.bbEn = true ∧
            t.sbr = s.sbr ∧ t.sdaDl = !s.sbr.getLsbD 7
        | .dataSendAck => t.oe = false ∧ t.sdaDl = false ∧ t.cnt = 14 ∧ t.pstate = .done ∧ t.shreg = s.shreg ∧
            t.bbEn = true ∧ t.sbr = s.sbr
        | .done => t.oe = false ∧ t.sdaDl = false ∧ t.bbEn = false ∧ t.pstate = .done ∧ t.shreg = s.shreg ∧
            t.cnt = s.cnt ∧ t.sbr = s.sbr)

/-- SBR is written only by the DATA_READ_ACK service and by reset (R33, R146; the inference R156). -/
def Obligations.SbrIsWrittenOnlyByItsService : Prop :=
  ∀ s : State, ∃ t, step s = .next t ∧
    t.sbr =
      (if s.drive.rst then s.cfg.sbrInit
        else if s.cfg.busActive s.cstate && s.ovf && s.bbEn && s.pstate == .dataReadAck then s.shreg
        else s.sbr)

/-- A read of SBR in the cycle of a write returns the old value (R62): the loop's target is derived from SBR as it was
before the cycle, while DATA_READ_ACK replaces it. -/
def Obligations.SbrReadsReturnThePreState : Prop :=
  ∀ s : State, s.drive.rst = false → s.cstate = .lTarget →
    (s.cfg.bothLimitsHalt && s.upAsserted && s.dnAsserted) = false →
    s.ovf = true → s.bbEn = true → s.pstate = .dataReadAck →
    ∃ t, step s = .next t ∧ t.sbr = s.shreg ∧ t.target = s.sbr.setWidth 32 * s.cfg.scale

/-- A write transaction to the device address or to the broadcast address is acknowledged twice, stores its byte and
leaves the lines released (R81, R140; the inference R150), driven by the model's own master (log 20). -/
def Obligations.WriteTransactionStoresTheByte : Prop :=
  ∀ (s : State) (a : BusAddr) (b : Byte) (up dn : Bool),
    s.busIdle → s.gateStaysOpen 83 → (a = s.cfg.devAddr ∨ a = 0) →
    s.drive = masterCycle up dn true true → s.script = scriptDrives up dn false (scriptWrite a b) →
    (∃ u, after 39 s = some u ∧ u.sclIn = true ∧ u.sdaIn = false) ∧
    (∃ u, after 75 s = some u ∧ u.sclIn = true ∧ u.sdaIn = false) ∧
    ∃ t, after 83 s = some t ∧ t.sbr = b ∧ t.pstate = .done ∧ t.bbEn = false ∧ t.sclDl = false ∧ t.sdaDl = false

/-- A write transaction to any other address is not acknowledged and leaves SBR unchanged: in no cycle does the block
pull SDA low or write SBR, and it ends deaf until the next start (R144). The master is the model's own (log 20). -/
def Obligations.WriteToAnotherAddressIsIgnored : Prop :=
  ∀ (s : State) (a : BusAddr) (b : Byte) (up dn : Bool),
    s.busIdle → s.gateStaysOpen 83 → a ≠ s.cfg.devAddr → a ≠ 0 →
    s.drive = masterCycle up dn true true → s.script = scriptDrives up dn false (scriptWrite a b) →
    (∃ u, after 39 s = some u ∧ u.sclIn = true ∧ u.sdaIn = true) ∧
    (∃ u, after 75 s = some u ∧ u.sclIn = true ∧ u.sdaIn = true) ∧
    (∀ k, k ≤ 83 → ∃ u, after k s = some u ∧ u.sdaDl = false ∧ u.sbr = s.sbr) ∧
    ∃ t, after 83 s = some t ∧ t.bbEn = false ∧ t.sclDl = false

/-- A read transaction is acknowledged and puts SBR on the line, most significant bit first, whether the master then
sends ACK or NACK (R81, R147, R148; the inference R150), driven by the model's own master (log 20). -/
def Obligations.ReadTransactionSendsTheByte : Prop :=
  ∀ (s : State) (a : BusAddr) (ack up dn : Bool),
    s.busIdle → s.gateStaysOpen 83 → (a = s.cfg.devAddr ∨ a = 0) →
    s.drive = masterCycle up dn true true →
    s.script = scriptDrives up dn false (if ack then scriptReadAck a else scriptRead a) →
    (∃ u, after 39 s = some u ∧ u.sclIn = true ∧ u.sdaIn = false) ∧
    (∀ i, i < 8 → ∃ u, after (43 + 4 * i) s = some u ∧ u.sclIn = true ∧ u.sdaIn = s.sbr.getLsbD (7 - i)) ∧
    ∃ t, after 83 s = some t ∧ t.sbr = s.sbr ∧ t.pstate = .done ∧ t.bbEn = false ∧ t.sdaDl = false

/-! ### Step sequencer -/

/-- What the six sequencer operations do, and that they change nothing else (R162 to R168). -/
def Obligations.SequencerOperations : Prop :=
  ∀ s : State,
    (∀ (tz : Bool) (m : MoveCmd), m.n = 0 → exec (.seqStart tz m) s = .next { s with
      lastDir := m.dir, changed := s.wires.setC, sqTaken := 0, sqMax := 0, sqHp := halfPeriod s.cfg m.spd }) ∧
    (∀ (tz : Bool) (m : MoveCmd), m.n ≠ 0 → exec (.seqStart tz m) s = .next { s with
      lastDir := m.dir, changed := s.wires.setC, sqTaken := 0, sqMax := m.n, sqHp := halfPeriod s.cfg m.spd
      sqPhase := .high, sqTimer := halfPeriod s.cfg m.spd - 1 }) ∧
    exec .seqHighCount s = .next { s with sqTimer := s.sqTimer - 1 } ∧
    exec .seqHighEnd s = .next { s with sqPhase := .low, sqTimer := s.sqHp - 1 } ∧
    exec .seqLowCount s = .next { s with sqTimer := s.sqTimer - 1 } ∧
    (s.wires.changedM = true ∨ s.sqMax.toNat ≤ (s.sqTaken + 1).toNat →
      exec .seqPulseEnd s = .next { s with
        sqTaken := s.sqTaken + 1, changed := false, sqPhase := .idle
        wires := { s.wires with took := s.wires.changedM } }) ∧
    (s.wires.changedM = false → (s.sqTaken + 1).toNat < s.sqMax.toNat →
      exec .seqPulseEnd s = .next { s with
        sqTaken := s.sqTaken + 1, changed := false, sqPhase := .high, sqTimer := s.sqHp - 1
        wires := { s.wires with took := false } }) ∧
    ∀ tz : Bool, exec (.seqIdle tz) s = .next s

/-- A pulse is checked only at its end (R164 to R167; the inference R173): inside it a flip changes nothing, at its
end a flip in any of its cycles, or the last requested pulse, ends the burst. -/
def Obligations.PulseIsCheckedAtItsEnd : Prop :=
  ∀ s : State, s.Inv → Calm s 1 → s.sqPhase ≠ .idle → ∃ t, step s = .next t ∧
    t.lastDir = s.lastDir ∧ t.sqMax = s.sqMax ∧ t.sqHp = s.sqHp ∧ t.cstate = s.cstate ∧
    (if s.sqPhase = .low ∧ s.sqTimer = 0 then
      t.sqTaken.toNat = s.sqTaken.toNat + 1 ∧ t.changed = false ∧
        (if s.changed = true ∨ s.upAsserted ≠ s.limUp ∨ s.dnAsserted ≠ s.limDn ∨
            s.sqTaken.toNat + 1 = s.sqMax.toNat then t.sqPhase = .idle
          else t.sqPhase = .high ∧ t.sqTimer.toNat + 1 = s.sqHp.toNat)
    else
      t.sqPhase ≠ .idle ∧ t.sqTaken = s.sqTaken ∧
        t.changed = (s.changed || (s.upAsserted != s.limUp || s.dnAsserted != s.limDn)))

/-- A pulse is one half-period high and one half-period low (R170; the inference R172), and counts one step at its
end. -/
def Obligations.PulseHasEqualPhases : Prop :=
  ∀ (s : State) (h : Nat), s.Inv → s.sqPhase = .high → s.sqHp.toNat = h → s.sqTimer.toNat + 1 = h →
    Calm s (2 * h) →
    (∀ k, k < h → ∃ u, after k s = some u ∧ u.stepOut = true) ∧
    (∀ k, h ≤ k → k < 2 * h → ∃ u, after k s = some u ∧ u.stepOut = false ∧ u.sqPhase = .low) ∧
    ∃ t, after (2 * h) s = some t ∧ t.sqTaken.toNat = s.sqTaken.toNat + 1 ∧ t.lastDir = s.lastDir

/-- With no flip from its first cycle to its end, a burst takes exactly the requested count, in `2 h n` cycles, and is
busy until then (the inferences R172, R175). -/
def Obligations.UndisturbedBurstTakesEveryStep : Prop :=
  ∀ (s : State) (h n : Nat), s.Inv → s.sqPhase = .high → s.sqHp.toNat = h → s.sqTimer.toNat + 1 = h →
    s.sqTaken = 0 → s.sqMax.toNat = n → s.changed = false → Calm s (2 * h * n) → Steady s (2 * h * n) →
    (∀ k, k < 2 * h * n → ∃ u, after k s = some u ∧ u.sqPhase ≠ .idle) ∧
    ∃ t, after (2 * h * n) s = some t ∧ t.sqPhase = .idle ∧ t.sqTaken = s.sqMax ∧ t.cstate = s.cstate

/-- A flip inside pulse `k` makes the burst return `k` (R167; the inference R175): from the first cycle of the pulse,
with the flag already set or a level that differs within the pulse, the burst is over when the pulse is. -/
def Obligations.FlipInsideAPulseEndsTheBurst : Prop :=
  ∀ (s : State) (h : Nat), s.Inv → s.sqPhase = .high → s.sqHp.toNat = h → s.sqTimer.toNat + 1 = h →
    Calm s (2 * h) →
    (s.changed = true ∨ ∃ d ∈ s.drives (2 * h), d.up s.cfg ≠ s.limUp ∨ d.dn s.cfg ≠ s.limDn) →
    ∃ t, after (2 * h) s = some t ∧ t.sqPhase = .idle ∧ t.sqTaken.toNat = s.sqTaken.toNat + 1 ∧ t.changed = false

/-! ### Homing -/

/-- What the homing states that issue a burst or wait for one do, and that they change nothing else (R181, R182, R184,
R185, R187, R188, R190, R191). -/
def Obligations.HomingMoveOperations : Prop :=
  ∀ s : State,
    exec .h1Check s =
      (if s.wires.upN = true ∧ s.hacc.toNat < s.cfg.maxUpHomingBackoff.toNat then
        .next { s with cstate := .h1Move, wires := { s.wires with
          move := some { dir := .down, spd := .p1, n := s.cfg.maxUpHomingBackoff - s.hacc } } }
      else .next { s with stimer := s.cfg.settleCycles, cstate := .h1Settle }) ∧
    exec .h1Move s =
      (if s.sqPhase = .idle then .next { s with hacc := s.hacc + s.sqTaken, cstate := .h1Check } else .next s) ∧
    exec .h2Start s =
      (if s.wires.dnN = true then .next { s with hacc := 0, stimer := s.cfg.settleCycles, cstate := .h2Settle }
      else .next { s with cstate := .h2Move, wires := { s.wires with
        move := some { dir := .down, spd := .p2, n := s.cfg.maxHomingSteps } } }) ∧
    exec .h2Move s =
      (if s.sqPhase = .idle then
        .next { s with hacc := s.sqTaken, stimer := s.cfg.settleCycles, cstate := .h2Settle }
      else .next s) ∧
    exec .h3Start s =
      .next { s with cstate := .h3Move, wires := { s.wires with
        move := some { dir := .up, spd := .p3, n := s.cfg.maxBackoffSteps } } } ∧
    exec .h3Move s =
      (if s.sqPhase = .idle then
        .next { s with hacc := s.sqTaken, stimer := s.cfg.settleCycles, cstate := .h3Settle }
      else .next s) ∧
    exec .h4Start s =
      .next { s with cstate := .h4Move, wires := { s.wires with
        move := some { dir := .up, spd := .p4, n := s.cfg.extraBackoffSteps } } } ∧
    exec .h4Move s =
      (if s.sqPhase = .idle then .next { s with stimer := s.cfg.settleCycles, cstate := .h4Settle } else .next s)

/-- What the settle states do, and that they change nothing else (R183, R186, R189, R192, R193): count down, then
verify the budget first and the switch second. -/
def Obligations.HomingSettleOperations : Prop :=
  ∀ s : State,
    (s.stimer ≠ 0 →
      exec .h1Settle s = .next { s with stimer := s.stimer - 1 } ∧
      exec .h2Settle s = .next { s with stimer := s.stimer - 1 } ∧
      exec .h3Settle s = .next { s with stimer := s.stimer - 1 } ∧
      exec .h4Settle s = .next { s with stimer := s.stimer - 1 }) ∧
    (s.stimer = 0 →
      exec .h1Settle s =
        (if s.cfg.maxUpHomingBackoff.toNat ≤ s.hacc.toNat then
          .next { s with cstate := .halt, haltCause := some .upBudget, sqPhase := .idle }
        else if s.wires.upN = true then
          .next { s with cstate := .halt, haltCause := some .upStuck, sqPhase := .idle }
        else .next { s with hacc := 0, cstate := .h2Start }) ∧
      exec .h2Settle s =
        (if s.cfg.maxHomingSteps.toNat ≤ s.hacc.toNat then
          .next { s with cstate := .halt, haltCause := some .seekBudget, sqPhase := .idle }
        else if s.wires.dnN = false then
          .next { s with cstate := .halt, haltCause := some .downMissing, sqPhase := .idle }
        else .next { s with hacc := 0, cstate := .h3Start }) ∧
      exec .h3Settle s =
        (if s.cfg.maxBackoffSteps.toNat ≤ s.hacc.toNat then
          .next { s with cstate := .halt, haltCause := some .backoffBudget, sqPhase := .idle }
        else if s.wires.dnN = true then
          .next { s with cstate := .halt, haltCause := some .downStuck, sqPhase := .idle }
        else .next { s with hacc := 0, cstate := .h4Start }) ∧
      exec .h4Settle s = .next { s with position := 0, homed := true, cstate := .lCompute })

/-- A settle state lasts as many cycles as its timer says and one more (R193). -/
def Obligations.SettleLastsItsCycles : Prop :=
  ∀ (s : State) (n : Nat), settling s.cstate = true → s.stimer.toNat = n → Calm s (n + 1) →
    (∀ k, k ≤ n → ∃ u, after k s = some u ∧ u.cstate = s.cstate) ∧
    ∃ t, after (n + 1) s = some t ∧ t.cstate ≠ s.cstate

/-- Once homing is over no cycle without reset returns to it (the inference R194); `homed` is set only where homing
completes and cleared only by reset, the halt leaves it (R46, R192). -/
def Obligations.HomingRunsOnce : Prop :=
  ∀ s : State, s.drive.rst = false → ∃ t, step s = .next t ∧
    (s.cstate.homing = false → t.cstate.homing = false) ∧
    t.homed = (s.homed || (s.cstate == .h4Settle && s.stimer == 0 && t.cstate == .lCompute))

/-! ### Position loop -/

/-- What the loop states do, and that they change nothing else (R201 to R203). -/
def Obligations.LoopOperations : Prop :=
  ∀ s : State,
    (0 < (s.target - s.position).toInt → exec .lCompute s = .next { s with cstate := .lMove, wires := { s.wires with
      move := some { dir := .up, spd := .cruise, n := s.target - s.position } } }) ∧
    ((s.target - s.position).toInt < 0 → exec .lCompute s = .next { s with cstate := .lMove, wires := { s.wires with
      move := some { dir := .down, spd := .cruise, n := s.position - s.target } } }) ∧
    (s.target = s.position → exec .lCompute s = .next { s with cstate := .lTarget }) ∧
    (s.sqPhase ≠ .idle → exec .lMove s = .next s) ∧
    (s.sqPhase = .idle → s.lastDir = .up →
      exec .lMove s = .next { s with position := s.position + s.sqTaken, cstate := .lTarget }) ∧
    (s.sqPhase = .idle → s.lastDir = .down →
      exec .lMove s = .next { s with position := s.position - s.sqTaken, cstate := .lTarget }) ∧
    exec .lTarget s = .next { s with
      target := BitVec.ofNat 32 (s.wires.sbr.toNat * s.cfg.scale.toNat), hb := !s.hb, cstate := .lCompute }

/-- The target is the byte times the scale factor, exactly (R203, R204). -/
def Obligations.TargetIsTheByteTimesScale : Prop :=
  ∀ s : State, s.drive.rst = false → s.cstate = .lTarget →
    (s.cfg.bothLimitsHalt && s.upAsserted && s.dnAsserted) = false →
    ∃ t, step s = .next t ∧ t.target.toInt = (s.sbr.toNat : Int) * (s.cfg.scale.toNat : Int) ∧
      t.hb = !s.hb ∧ t.cstate = .lCompute ∧ t.position = s.position

/-- The loop starts a burst from the position toward the target for exactly the distance, UP for a larger target, and
none when it is there (R201, R204). -/
def Obligations.LoopBurstGoesToTheTarget : Prop :=
  ∀ s : State, s.Inv → Calm s 1 → s.cstate = .lCompute → ∃ t, step s = .next t ∧
    (if s.target = s.position then
      t.cstate = .lTarget ∧ t.sqPhase = .idle ∧ t.lastDir = s.lastDir ∧ t.sqTaken = s.sqTaken
    else
      t.cstate = .lMove ∧ t.sqPhase = .high ∧ t.sqTaken = 0 ∧ t.sqHp = s.cfg.hpCruise ∧
        t.lastDir = (if s.position.toInt < s.target.toInt then .up else .down) ∧
        (t.sqMax.toNat : Int) = |s.target.toInt - s.position.toInt|)

/-- When the burst is over the position moves by the steps completed, toward the target and not past it (R202; the
inference R205). -/
def Obligations.PositionAdvancesByStepsTaken : Prop :=
  ∀ s : State, s.Inv → Calm s 1 → s.cstate = .lMove → s.sqPhase = .idle → ∃ t, step s = .next t ∧
    t.cstate = .lTarget ∧
    t.position.toInt =
      (if s.lastDir = .up then s.position.toInt + s.sqTaken.toNat else s.position.toInt - s.sqTaken.toNat) ∧
    (if s.lastDir = .up then t.position.toInt ≤ s.target.toInt else s.target.toInt ≤ t.position.toInt)

/-- At the target with SBR unchanged an iteration takes two cycles, issues no move and leaves the motion half as it
was but for the heartbeat, which toggles, and the limit monitor, which follows the switches (the inference R206; R208).
SBR is unchanged in a cycle in which no DATA_READ_ACK service runs; if none runs in the second cycle either, the next
iteration starts as this one did. -/
def Obligations.LoopIsIdempotentAtTheTarget : Prop :=
  ∀ s : State, s.Inv → Calm s 2 → s.cstate = .lCompute → s.target = s.position →
    s.target = s.sbr.setWidth 32 * s.cfg.scale → (s.ovf = false ∨ s.pstate ≠ .dataReadAck) →
    ∃ u t, after 1 s = some u ∧ after 2 s = some t ∧
      u.motion = { s.motion with cstate := .lTarget, limUp := u.limUp, limDn := u.limDn, changed := u.changed } ∧
      u.sbr = s.sbr ∧ u.stepOut = false ∧
      t.motion = { s.motion with hb := !s.hb, limUp := t.limUp, limDn := t.limDn, changed := t.changed } ∧
      t.cstate = .lCompute ∧ t.position = s.position ∧ t.target = s.target ∧ t.stepOut = false ∧
      (u.ovf = false ∨ u.pstate ≠ .dataReadAck →
        t.sbr = s.sbr ∧ t.target = t.position ∧ t.target = t.sbr.setWidth 32 * t.cfg.scale)

/-- While a burst of the loop runs, no write of SBR changes the target, the requested count or the direction (the
inferences R74, R207). -/
def Obligations.BurstIsNotPreempted : Prop :=
  ∀ s : State, Calm s 1 → s.cstate = .lMove → s.sqPhase ≠ .idle → ∃ t, step s = .next t ∧
    t.cstate = .lMove ∧ t.target = s.target ∧ t.position = s.position ∧ t.sqMax = s.sqMax ∧
    t.lastDir = s.lastDir ∧ t.sqHp = s.sqHp ∧ t.hb = s.hb

/-- Position, target, heartbeat and settle timer have no other writers than their rules name (R44, R45, R193,
R208). -/
def Obligations.MotionRegistersHaveTheirWriters : Prop :=
  ∀ s : State, s.drive.rst = false → ∃ t, step s = .next t ∧
    (t.position ≠ s.position → s.cstate = .h4Settle ∨ s.cstate = .lMove) ∧
    (t.target ≠ s.target → s.cstate = .lTarget) ∧
    (t.hb ≠ s.hb → s.cstate = .lTarget) ∧
    (t.stimer ≠ s.stimer → s.cstate.homing = true) ∧
    (t.hacc ≠ s.hacc → s.cstate.homing = true)

/-! ### The fail-stop halt -/

/-- What the operations of the halt do, and that they change nothing else (R222 to R224). That BOTH_LIMITS by itself
does nothing where its condition fails is the model's choice (log 15): in a cycle it is then not selected. -/
def Obligations.HaltOperations : Prop :=
  ∀ s : State,
    (∀ c : HaltCause, exec (.haltEntry c) s =
      .next { s with cstate := .halt, haltCause := some c, sqPhase := .idle }) ∧
    exec .bothLimits s =
      (if s.cstate ≠ .halt ∧ s.cfg.bothLimitsHalt = true ∧ s.wires.upN = true ∧ s.wires.dnN = true then
        .next { s with cstate := .halt, haltCause := some .bothLimits, sqPhase := .idle }
      else .next s) ∧
    exec .halt s = .next s

/-- The halt is entered exactly under the conditions of R222, with the cause each one has; the both-limits condition
goes before the state's own step, which is then not taken, and the budget goes before the switch. -/
def Obligations.HaltIsEnteredExactlyOnItsConditions : Prop :=
  ∀ s : State, s.drive.rst = false → s.cstate ≠ .halt → ∃ t, step s = .next t ∧
    (s.cfg.bothLimitsHalt = true ∧ s.upAsserted = true ∧ s.dnAsserted = true →
      t.hacc = s.hacc ∧ t.stimer = s.stimer ∧ t.position = s.position ∧ t.target = s.target ∧
        t.homed = s.homed ∧ t.hb = s.hb) ∧
    ∀ c : HaltCause, (t.cstate = .halt ∧ t.haltCause = some c) ↔
      (let both := s.cfg.bothLimitsHalt = true ∧ s.upAsserted = true ∧ s.dnAsserted = true
       let verify := fun (cs : CState) => ¬both ∧ s.cstate = cs ∧ s.stimer = 0
       match c with
        | .bothLimits => both
        | .upBudget => verify .h1Settle ∧ s.cfg.maxUpHomingBackoff.toNat ≤ s.hacc.toNat
        | .upStuck => verify .h1Settle ∧ s.hacc.toNat < s.cfg.maxUpHomingBackoff.toNat ∧ s.upAsserted = true
        | .seekBudget => verify .h2Settle ∧ s.cfg.maxHomingSteps.toNat ≤ s.hacc.toNat
        | .downMissing => verify .h2Settle ∧ s.hacc.toNat < s.cfg.maxHomingSteps.toNat ∧ s.dnAsserted = false
        | .backoffBudget => verify .h3Settle ∧ s.cfg.maxBackoffSteps.toNat ≤ s.hacc.toNat
        | .downStuck => verify .h3Settle ∧ s.hacc.toNat < s.cfg.maxBackoffSteps.toNat ∧ s.dnAsserted = true)

/-- Entering the halt stops any burst at once, evaluates no sequencer step, keeps every other motion register and
asserts the fault output (R223, R225). -/
def Obligations.HaltEntryOverACycle : Prop :=
  ∀ s : State, s.drive.rst = false → s.cstate ≠ .halt → ∃ t, step s = .next t ∧
    (t.cstate = .halt →
      t.sqPhase = .idle ∧ t.stepOut = false ∧ t.faultOut = s.cfg.faultActiveLevel ∧
      t.sqTimer = s.sqTimer ∧ t.sqMax = s.sqMax ∧ t.sqTaken = s.sqTaken ∧ t.sqHp = s.sqHp ∧
      t.lastDir = s.lastDir ∧ t.dirOut = s.dirOut ∧ t.hbOut = s.hbOut ∧
      t.changed = (s.changed || (s.upAsserted != s.limUp || s.dnAsserted != s.limDn)) ∧
      t.homed = s.homed ∧ t.position = s.position ∧ t.target = s.target ∧ t.hacc = s.hacc ∧
      t.stimer = s.stimer)

/-- HALT is absorbing (R224, R225): over any number of cycles without reset, whatever the switches and the bus do, the
fault output stays asserted, no step pulse is emitted and no register of the controller or the sequencer changes. -/
def Obligations.HaltIsAbsorbing : Prop :=
  ∀ (k : Nat) (s : State), s.cstate = .halt → s.sqPhase = .idle → NoReset s k →
    ∃ t, after k s = some t ∧ t.stepOut = false ∧ t.faultOut = s.cfg.faultActiveLevel ∧
      t.motion = { s.motion with limUp := t.limUp, limDn := t.limDn, changed := t.changed } ∧
      (s.changed = true → t.changed = true)

/-! ### Invariants -/

/-- Every step keeps the invariant. -/
def Obligations.EveryStepKeepsTheInvariant : Prop :=
  ∀ s : State, s.Inv → ∃ t, step s = .next t ∧ t.Inv

/-- Every reset state has the invariant, whatever the configuration, the samples and the environment, and so has
`State.reset`. -/
def Obligations.ResetStatesHaveTheInvariant : Prop :=
  (∀ (c : Config) (scl sda up dn : Bool) (d : Drive) (ds : List Drive), (State.resetOf c scl sda up dn d ds).Inv) ∧
  State.reset.Inv

/-- The invariants of R54, the spec's own inference, hold of every state reached from a reset state, under every
configuration and every environment: the corollary over runs of `EveryStepKeepsTheInvariant` and
`ResetStatesHaveTheInvariant`. -/
def Obligations.ReachableStatesAreSound : Prop :=
  ∀ (c : Config) (scl sda up dn : Bool) (d : Drive) (ds : List Drive) (k : Nat),
    ∃ t, after k (State.resetOf c scl sda up dn d ds) = some t ∧ t.Sound

/-! ### Independence of the two halves -/

/-- Nothing that happens on the bus reaches the motion half but through SBR (R226; the inferences R68, R155): states
with the same motion half, SBR, configuration and pins have the same motion half and motion outputs after a cycle,
whatever the bus engine and the lines. -/
def Obligations.MotionSeesTheBusOnlyThroughSbr : Prop :=
  ∀ s s' : State, s.cfg = s'.cfg → s.motion = s'.motion → s.sbr = s'.sbr →
    s.drive.rst = s'.drive.rst → s.drive.limUpPin = s'.drive.limUpPin → s.drive.limDnPin = s'.drive.limDnPin →
    ∃ t t', step s = .next t ∧ step s' = .next t' ∧ t.motion = t'.motion ∧ t.motionOutputs = t'.motionOutputs

/-- The bus half sees of the motion half only whether the gate is open (R110): states with the same bus half,
configuration, drives and gate have the same bus half after a cycle. -/
def Obligations.BusSeesOnlyTheGate : Prop :=
  ∀ s s' : State, s.cfg = s'.cfg → s.bus = s'.bus → s.drive.rst = s'.drive.rst →
    s.drive.scl = s'.drive.scl → s.drive.sda = s'.drive.sda →
    s.cfg.busActive s.cstate = s.cfg.busActive s'.cstate →
    ∃ t t', step s = .next t ∧ step s' = .next t' ∧ t.bus = t'.bus
end

