-- ==== Sys2Proof/Laws/Config.lean ====
section
/-! SUPPORT. What the constraints of spec/00_scope.md R7 give of a configuration. -/

namespace Sys2Proof

theorem legalBudget_iff (b : Word32) : legalBudget b = true ↔ 1 ≤ b.toNat ∧ b.toNat ≤ 2 ^ 31 - 1 := by
  simp [legalBudget]

/-- The record breaks no constraint exactly when every entry meets its own. -/
theorem error_none_iff (p : Params) :
    p.error? = none ↔
      1 ≤ p.scale.toNat ∧ 255 * p.scale.toNat ≤ 2 ^ 31 - 1 ∧
      legalBudget p.maxUpHomingBackoff = true ∧ legalBudget p.maxHomingSteps = true ∧
      legalBudget p.maxBackoffSteps = true ∧ p.extraBackoffSteps.toNat ≤ 2 ^ 31 - 1 ∧
      p.hpP1 ≠ 0 ∧ p.hpP2 ≠ 0 ∧ p.hpP3 ≠ 0 ∧ p.hpP4 ≠ 0 ∧ p.hpCruise ≠ 0 := by
  have hz : ∀ x : Word32, (x == 0) = false ↔ x ≠ 0 := by simp
  unfold Params.error?
  constructor
  · intro h
    repeat' split at h
    all_goals simp_all
    omega
  · rintro ⟨h1, h2, h3, h4, h5, h6, h7, h8, h9, h10, h11⟩
    rw [if_neg (by omega), if_neg (by omega), if_neg (by simp [h3]), if_neg (by simp [h4]), if_neg (by simp [h5]),
      if_neg (by omega), if_neg]
    simp only [(hz _).mpr h7, (hz _).mpr h8, (hz _).mpr h9, (hz _).mpr h10, (hz _).mpr h11, Bool.or_self]
    exact Bool.false_ne_true

theorem Config.scale_pos (c : Config) : 1 ≤ c.scale.toNat := ((error_none_iff _).mp c.legal).1

theorem Config.scale_le (c : Config) : 255 * c.scale.toNat ≤ 2 ^ 31 - 1 := ((error_none_iff _).mp c.legal).2.1

theorem Config.upBackoff_range (c : Config) :
    1 ≤ c.maxUpHomingBackoff.toNat ∧ c.maxUpHomingBackoff.toNat ≤ 2 ^ 31 - 1 :=
  (legalBudget_iff _).mp ((error_none_iff _).mp c.legal).2.2.1

theorem Config.homingSteps_range (c : Config) : 1 ≤ c.maxHomingSteps.toNat ∧ c.maxHomingSteps.toNat ≤ 2 ^ 31 - 1 :=
  (legalBudget_iff _).mp ((error_none_iff _).mp c.legal).2.2.2.1

theorem Config.backoffSteps_range (c : Config) :
    1 ≤ c.maxBackoffSteps.toNat ∧ c.maxBackoffSteps.toNat ≤ 2 ^ 31 - 1 :=
  (legalBudget_iff _).mp ((error_none_iff _).mp c.legal).2.2.2.2.1

theorem Config.halfPeriods_ne (c : Config) :
    c.hpP1 ≠ 0 ∧ c.hpP2 ≠ 0 ∧ c.hpP3 ≠ 0 ∧ c.hpP4 ≠ 0 ∧ c.hpCruise ≠ 0 :=
  ((error_none_iff _).mp c.legal).2.2.2.2.2.2

end Sys2Proof
end

