-- ==== Sys2Proof/Laws/State.lean ====
section
/-! SUPPORT. One simp lemma per field per named update of the state, so that no proof unfolds a record update. The
updates are those of Machine/Ops.lean that write their fields whatever the state; the conditional ones have their
lemmas in Laws/Ops.lean. -/

namespace Sys2Proof.Machine

/-! ### `beginCycle` -/

@[simp] theorem beginCycle_cfg (s : State) :
    (beginCycle s).cfg = s.cfg := rfl

@[simp] theorem beginCycle_pScl (s : State) :
    (beginCycle s).pScl = s.pScl := rfl

@[simp] theorem beginCycle_pSda (s : State) :
    (beginCycle s).pSda = s.pSda := rfl

@[simp] theorem beginCycle_ss (s : State) :
    (beginCycle s).ss = s.ss := rfl

@[simp] theorem beginCycle_pstate (s : State) :
    (beginCycle s).pstate = s.pstate := rfl

@[simp] theorem beginCycle_bbEn (s : State) :
    (beginCycle s).bbEn = s.bbEn := rfl

@[simp] theorem beginCycle_ovf (s : State) :
    (beginCycle s).ovf = s.ovf := rfl

@[simp] theorem beginCycle_cnt (s : State) :
    (beginCycle s).cnt = s.cnt := rfl

@[simp] theorem beginCycle_shreg (s : State) :
    (beginCycle s).shreg = s.shreg := rfl

@[simp] theorem beginCycle_dout (s : State) :
    (beginCycle s).dout = s.dout := rfl

@[simp] theorem beginCycle_oe (s : State) :
    (beginCycle s).oe = s.oe := rfl

@[simp] theorem beginCycle_sbr (s : State) :
    (beginCycle s).sbr = s.sbr := rfl

@[simp] theorem beginCycle_limUp (s : State) :
    (beginCycle s).limUp = s.limUp := rfl

@[simp] theorem beginCycle_limDn (s : State) :
    (beginCycle s).limDn = s.limDn := rfl

@[simp] theorem beginCycle_changed (s : State) :
    (beginCycle s).changed = s.changed := rfl

@[simp] theorem beginCycle_sqPhase (s : State) :
    (beginCycle s).sqPhase = s.sqPhase := rfl

@[simp] theorem beginCycle_sqTimer (s : State) :
    (beginCycle s).sqTimer = s.sqTimer := rfl

@[simp] theorem beginCycle_sqMax (s : State) :
    (beginCycle s).sqMax = s.sqMax := rfl

@[simp] theorem beginCycle_sqTaken (s : State) :
    (beginCycle s).sqTaken = s.sqTaken := rfl

@[simp] theorem beginCycle_sqHp (s : State) :
    (beginCycle s).sqHp = s.sqHp := rfl

@[simp] theorem beginCycle_lastDir (s : State) :
    (beginCycle s).lastDir = s.lastDir := rfl

@[simp] theorem beginCycle_cstate (s : State) :
    (beginCycle s).cstate = s.cstate := rfl

@[simp] theorem beginCycle_hacc (s : State) :
    (beginCycle s).hacc = s.hacc := rfl

@[simp] theorem beginCycle_stimer (s : State) :
    (beginCycle s).stimer = s.stimer := rfl

@[simp] theorem beginCycle_position (s : State) :
    (beginCycle s).position = s.position := rfl

@[simp] theorem beginCycle_target (s : State) :
    (beginCycle s).target = s.target := rfl

@[simp] theorem beginCycle_homed (s : State) :
    (beginCycle s).homed = s.homed := rfl

@[simp] theorem beginCycle_hb (s : State) :
    (beginCycle s).hb = s.hb := rfl

@[simp] theorem beginCycle_haltCause (s : State) :
    (beginCycle s).haltCause = s.haltCause := rfl

@[simp] theorem beginCycle_drive (s : State) :
    (beginCycle s).drive = s.drive := rfl

@[simp] theorem beginCycle_script (s : State) :
    (beginCycle s).script = s.script := rfl

@[simp] theorem beginCycle_wires (s : State) :
    (beginCycle s).wires = { Wires.rest with scl := s.sclIn, sda := s.sdaIn, sbr := s.sbr } := rfl

/-! ### `sampleLines` -/

@[simp] theorem sampleLines_cfg (s : State) :
    (sampleLines s).cfg = s.cfg := rfl

@[simp] theorem sampleLines_pScl (s : State) :
    (sampleLines s).pScl = s.wires.scl := rfl

@[simp] theorem sampleLines_pSda (s : State) :
    (sampleLines s).pSda = s.wires.sda := rfl

@[simp] theorem sampleLines_ss (s : State) :
    (sampleLines s).ss = s.ss := rfl

@[simp] theorem sampleLines_pstate (s : State) :
    (sampleLines s).pstate = s.pstate := rfl

@[simp] theorem sampleLines_bbEn (s : State) :
    (sampleLines s).bbEn = s.bbEn := rfl

@[simp] theorem sampleLines_ovf (s : State) :
    (sampleLines s).ovf = s.ovf := rfl

@[simp] theorem sampleLines_cnt (s : State) :
    (sampleLines s).cnt = s.cnt := rfl

@[simp] theorem sampleLines_shreg (s : State) :
    (sampleLines s).shreg = s.shreg := rfl

@[simp] theorem sampleLines_dout (s : State) :
    (sampleLines s).dout = s.dout := rfl

@[simp] theorem sampleLines_oe (s : State) :
    (sampleLines s).oe = s.oe := rfl

@[simp] theorem sampleLines_sbr (s : State) :
    (sampleLines s).sbr = s.sbr := rfl

@[simp] theorem sampleLines_limUp (s : State) :
    (sampleLines s).limUp = s.limUp := rfl

@[simp] theorem sampleLines_limDn (s : State) :
    (sampleLines s).limDn = s.limDn := rfl

@[simp] theorem sampleLines_changed (s : State) :
    (sampleLines s).changed = s.changed := rfl

@[simp] theorem sampleLines_sqPhase (s : State) :
    (sampleLines s).sqPhase = s.sqPhase := rfl

@[simp] theorem sampleLines_sqTimer (s : State) :
    (sampleLines s).sqTimer = s.sqTimer := rfl

@[simp] theorem sampleLines_sqMax (s : State) :
    (sampleLines s).sqMax = s.sqMax := rfl

@[simp] theorem sampleLines_sqTaken (s : State) :
    (sampleLines s).sqTaken = s.sqTaken := rfl

@[simp] theorem sampleLines_sqHp (s : State) :
    (sampleLines s).sqHp = s.sqHp := rfl

@[simp] theorem sampleLines_lastDir (s : State) :
    (sampleLines s).lastDir = s.lastDir := rfl

@[simp] theorem sampleLines_cstate (s : State) :
    (sampleLines s).cstate = s.cstate := rfl

@[simp] theorem sampleLines_hacc (s : State) :
    (sampleLines s).hacc = s.hacc := rfl

@[simp] theorem sampleLines_stimer (s : State) :
    (sampleLines s).stimer = s.stimer := rfl

@[simp] theorem sampleLines_position (s : State) :
    (sampleLines s).position = s.position := rfl

@[simp] theorem sampleLines_target (s : State) :
    (sampleLines s).target = s.target := rfl

@[simp] theorem sampleLines_homed (s : State) :
    (sampleLines s).homed = s.homed := rfl

@[simp] theorem sampleLines_hb (s : State) :
    (sampleLines s).hb = s.hb := rfl

@[simp] theorem sampleLines_haltCause (s : State) :
    (sampleLines s).haltCause = s.haltCause := rfl

@[simp] theorem sampleLines_drive (s : State) :
    (sampleLines s).drive = s.drive := rfl

@[simp] theorem sampleLines_script (s : State) :
    (sampleLines s).script = s.script := rfl

@[simp] theorem sampleLines_wires (s : State) :
    (sampleLines s).wires = s.wires := rfl

/-! ### `takeChanged` -/

@[simp] theorem takeChanged_cfg (s : State) :
    (takeChanged s).cfg = s.cfg := rfl

@[simp] theorem takeChanged_pScl (s : State) :
    (takeChanged s).pScl = s.pScl := rfl

@[simp] theorem takeChanged_pSda (s : State) :
    (takeChanged s).pSda = s.pSda := rfl

@[simp] theorem takeChanged_ss (s : State) :
    (takeChanged s).ss = s.ss := rfl

@[simp] theorem takeChanged_pstate (s : State) :
    (takeChanged s).pstate = s.pstate := rfl

@[simp] theorem takeChanged_bbEn (s : State) :
    (takeChanged s).bbEn = s.bbEn := rfl

@[simp] theorem takeChanged_ovf (s : State) :
    (takeChanged s).ovf = s.ovf := rfl

@[simp] theorem takeChanged_cnt (s : State) :
    (takeChanged s).cnt = s.cnt := rfl

@[simp] theorem takeChanged_shreg (s : State) :
    (takeChanged s).shreg = s.shreg := rfl

@[simp] theorem takeChanged_dout (s : State) :
    (takeChanged s).dout = s.dout := rfl

@[simp] theorem takeChanged_oe (s : State) :
    (takeChanged s).oe = s.oe := rfl

@[simp] theorem takeChanged_sbr (s : State) :
    (takeChanged s).sbr = s.sbr := rfl

@[simp] theorem takeChanged_limUp (s : State) :
    (takeChanged s).limUp = s.limUp := rfl

@[simp] theorem takeChanged_limDn (s : State) :
    (takeChanged s).limDn = s.limDn := rfl

@[simp] theorem takeChanged_changed (s : State) :
    (takeChanged s).changed = false := rfl

@[simp] theorem takeChanged_sqPhase (s : State) :
    (takeChanged s).sqPhase = s.sqPhase := rfl

@[simp] theorem takeChanged_sqTimer (s : State) :
    (takeChanged s).sqTimer = s.sqTimer := rfl

@[simp] theorem takeChanged_sqMax (s : State) :
    (takeChanged s).sqMax = s.sqMax := rfl

@[simp] theorem takeChanged_sqTaken (s : State) :
    (takeChanged s).sqTaken = s.sqTaken := rfl

@[simp] theorem takeChanged_sqHp (s : State) :
    (takeChanged s).sqHp = s.sqHp := rfl

@[simp] theorem takeChanged_lastDir (s : State) :
    (takeChanged s).lastDir = s.lastDir := rfl

@[simp] theorem takeChanged_cstate (s : State) :
    (takeChanged s).cstate = s.cstate := rfl

@[simp] theorem takeChanged_hacc (s : State) :
    (takeChanged s).hacc = s.hacc := rfl

@[simp] theorem takeChanged_stimer (s : State) :
    (takeChanged s).stimer = s.stimer := rfl

@[simp] theorem takeChanged_position (s : State) :
    (takeChanged s).position = s.position := rfl

@[simp] theorem takeChanged_target (s : State) :
    (takeChanged s).target = s.target := rfl

@[simp] theorem takeChanged_homed (s : State) :
    (takeChanged s).homed = s.homed := rfl

@[simp] theorem takeChanged_hb (s : State) :
    (takeChanged s).hb = s.hb := rfl

@[simp] theorem takeChanged_haltCause (s : State) :
    (takeChanged s).haltCause = s.haltCause := rfl

@[simp] theorem takeChanged_drive (s : State) :
    (takeChanged s).drive = s.drive := rfl

@[simp] theorem takeChanged_script (s : State) :
    (takeChanged s).script = s.script := rfl

@[simp] theorem takeChanged_wires (s : State) :
    (takeChanged s).wires = { s.wires with took := s.wires.changedM } := rfl

/-! ### `burstClear` -/

@[simp] theorem burstClear_cfg (s : State) :
    (burstClear s).cfg = s.cfg := rfl

@[simp] theorem burstClear_pScl (s : State) :
    (burstClear s).pScl = s.pScl := rfl

@[simp] theorem burstClear_pSda (s : State) :
    (burstClear s).pSda = s.pSda := rfl

@[simp] theorem burstClear_ss (s : State) :
    (burstClear s).ss = s.ss := rfl

@[simp] theorem burstClear_pstate (s : State) :
    (burstClear s).pstate = s.pstate := rfl

@[simp] theorem burstClear_bbEn (s : State) :
    (burstClear s).bbEn = s.bbEn := rfl

@[simp] theorem burstClear_ovf (s : State) :
    (burstClear s).ovf = s.ovf := rfl

@[simp] theorem burstClear_cnt (s : State) :
    (burstClear s).cnt = s.cnt := rfl

@[simp] theorem burstClear_shreg (s : State) :
    (burstClear s).shreg = s.shreg := rfl

@[simp] theorem burstClear_dout (s : State) :
    (burstClear s).dout = s.dout := rfl

@[simp] theorem burstClear_oe (s : State) :
    (burstClear s).oe = s.oe := rfl

@[simp] theorem burstClear_sbr (s : State) :
    (burstClear s).sbr = s.sbr := rfl

@[simp] theorem burstClear_limUp (s : State) :
    (burstClear s).limUp = s.limUp := rfl

@[simp] theorem burstClear_limDn (s : State) :
    (burstClear s).limDn = s.limDn := rfl

@[simp] theorem burstClear_changed (s : State) :
    (burstClear s).changed = s.wires.setC := rfl

@[simp] theorem burstClear_sqPhase (s : State) :
    (burstClear s).sqPhase = s.sqPhase := rfl

@[simp] theorem burstClear_sqTimer (s : State) :
    (burstClear s).sqTimer = s.sqTimer := rfl

@[simp] theorem burstClear_sqMax (s : State) :
    (burstClear s).sqMax = s.sqMax := rfl

@[simp] theorem burstClear_sqTaken (s : State) :
    (burstClear s).sqTaken = s.sqTaken := rfl

@[simp] theorem burstClear_sqHp (s : State) :
    (burstClear s).sqHp = s.sqHp := rfl

@[simp] theorem burstClear_lastDir (s : State) :
    (burstClear s).lastDir = s.lastDir := rfl

@[simp] theorem burstClear_cstate (s : State) :
    (burstClear s).cstate = s.cstate := rfl

@[simp] theorem burstClear_hacc (s : State) :
    (burstClear s).hacc = s.hacc := rfl

@[simp] theorem burstClear_stimer (s : State) :
    (burstClear s).stimer = s.stimer := rfl

@[simp] theorem burstClear_position (s : State) :
    (burstClear s).position = s.position := rfl

@[simp] theorem burstClear_target (s : State) :
    (burstClear s).target = s.target := rfl

@[simp] theorem burstClear_homed (s : State) :
    (burstClear s).homed = s.homed := rfl

@[simp] theorem burstClear_hb (s : State) :
    (burstClear s).hb = s.hb := rfl

@[simp] theorem burstClear_haltCause (s : State) :
    (burstClear s).haltCause = s.haltCause := rfl

@[simp] theorem burstClear_drive (s : State) :
    (burstClear s).drive = s.drive := rfl

@[simp] theorem burstClear_script (s : State) :
    (burstClear s).script = s.script := rfl

@[simp] theorem burstClear_wires (s : State) :
    (burstClear s).wires = s.wires := rfl

/-! ### `resetBusEngine` -/

@[simp] theorem resetBusEngine_cfg (s : State) :
    (resetBusEngine s).cfg = s.cfg := rfl

@[simp] theorem resetBusEngine_pScl (s : State) :
    (resetBusEngine s).pScl = s.pScl := rfl

@[simp] theorem resetBusEngine_pSda (s : State) :
    (resetBusEngine s).pSda = s.pSda := rfl

@[simp] theorem resetBusEngine_ss (s : State) :
    (resetBusEngine s).ss = .idle := rfl

@[simp] theorem resetBusEngine_pstate (s : State) :
    (resetBusEngine s).pstate = .checkAddress := rfl

@[simp] theorem resetBusEngine_bbEn (s : State) :
    (resetBusEngine s).bbEn = false := rfl

@[simp] theorem resetBusEngine_ovf (s : State) :
    (resetBusEngine s).ovf = false := rfl

@[simp] theorem resetBusEngine_cnt (s : State) :
    (resetBusEngine s).cnt = 0 := rfl

@[simp] theorem resetBusEngine_shreg (s : State) :
    (resetBusEngine s).shreg = 0x00 := rfl

@[simp] theorem resetBusEngine_dout (s : State) :
    (resetBusEngine s).dout = true := rfl

@[simp] theorem resetBusEngine_oe (s : State) :
    (resetBusEngine s).oe = false := rfl

@[simp] theorem resetBusEngine_sbr (s : State) :
    (resetBusEngine s).sbr = s.sbr := rfl

@[simp] theorem resetBusEngine_limUp (s : State) :
    (resetBusEngine s).limUp = s.limUp := rfl

@[simp] theorem resetBusEngine_limDn (s : State) :
    (resetBusEngine s).limDn = s.limDn := rfl

@[simp] theorem resetBusEngine_changed (s : State) :
    (resetBusEngine s).changed = s.changed := rfl

@[simp] theorem resetBusEngine_sqPhase (s : State) :
    (resetBusEngine s).sqPhase = s.sqPhase := rfl

@[simp] theorem resetBusEngine_sqTimer (s : State) :
    (resetBusEngine s).sqTimer = s.sqTimer := rfl

@[simp] theorem resetBusEngine_sqMax (s : State) :
    (resetBusEngine s).sqMax = s.sqMax := rfl

@[simp] theorem resetBusEngine_sqTaken (s : State) :
    (resetBusEngine s).sqTaken = s.sqTaken := rfl

@[simp] theorem resetBusEngine_sqHp (s : State) :
    (resetBusEngine s).sqHp = s.sqHp := rfl

@[simp] theorem resetBusEngine_lastDir (s : State) :
    (resetBusEngine s).lastDir = s.lastDir := rfl

@[simp] theorem resetBusEngine_cstate (s : State) :
    (resetBusEngine s).cstate = s.cstate := rfl

@[simp] theorem resetBusEngine_hacc (s : State) :
    (resetBusEngine s).hacc = s.hacc := rfl

@[simp] theorem resetBusEngine_stimer (s : State) :
    (resetBusEngine s).stimer = s.stimer := rfl

@[simp] theorem resetBusEngine_position (s : State) :
    (resetBusEngine s).position = s.position := rfl

@[simp] theorem resetBusEngine_target (s : State) :
    (resetBusEngine s).target = s.target := rfl

@[simp] theorem resetBusEngine_homed (s : State) :
    (resetBusEngine s).homed = s.homed := rfl

@[simp] theorem resetBusEngine_hb (s : State) :
    (resetBusEngine s).hb = s.hb := rfl

@[simp] theorem resetBusEngine_haltCause (s : State) :
    (resetBusEngine s).haltCause = s.haltCause := rfl

@[simp] theorem resetBusEngine_drive (s : State) :
    (resetBusEngine s).drive = s.drive := rfl

@[simp] theorem resetBusEngine_script (s : State) :
    (resetBusEngine s).script = s.script := rfl

@[simp] theorem resetBusEngine_wires (s : State) :
    (resetBusEngine s).wires = s.wires := rfl

/-! ### `driveAck` -/

@[simp] theorem driveAck_cfg (n : PState) (s : State) :
    (driveAck n s).cfg = s.cfg := rfl

@[simp] theorem driveAck_pScl (n : PState) (s : State) :
    (driveAck n s).pScl = s.pScl := rfl

@[simp] theorem driveAck_pSda (n : PState) (s : State) :
    (driveAck n s).pSda = s.pSda := rfl

@[simp] theorem driveAck_ss (n : PState) (s : State) :
    (driveAck n s).ss = s.ss := rfl

@[simp] theorem driveAck_pstate (n : PState) (s : State) :
    (driveAck n s).pstate = n := rfl

@[simp] theorem driveAck_bbEn (n : PState) (s : State) :
    (driveAck n s).bbEn = s.bbEn := rfl

@[simp] theorem driveAck_ovf (n : PState) (s : State) :
    (driveAck n s).ovf = false := rfl

@[simp] theorem driveAck_cnt (n : PState) (s : State) :
    (driveAck n s).cnt = 14 := rfl

@[simp] theorem driveAck_shreg (n : PState) (s : State) :
    (driveAck n s).shreg = 0x00 := rfl

@[simp] theorem driveAck_dout (n : PState) (s : State) :
    (driveAck n s).dout = s.dout := rfl

@[simp] theorem driveAck_oe (n : PState) (s : State) :
    (driveAck n s).oe = true := rfl

@[simp] theorem driveAck_sbr (n : PState) (s : State) :
    (driveAck n s).sbr = s.sbr := rfl

@[simp] theorem driveAck_limUp (n : PState) (s : State) :
    (driveAck n s).limUp = s.limUp := rfl

@[simp] theorem driveAck_limDn (n : PState) (s : State) :
    (driveAck n s).limDn = s.limDn := rfl

@[simp] theorem driveAck_changed (n : PState) (s : State) :
    (driveAck n s).changed = s.changed := rfl

@[simp] theorem driveAck_sqPhase (n : PState) (s : State) :
    (driveAck n s).sqPhase = s.sqPhase := rfl

@[simp] theorem driveAck_sqTimer (n : PState) (s : State) :
    (driveAck n s).sqTimer = s.sqTimer := rfl

@[simp] theorem driveAck_sqMax (n : PState) (s : State) :
    (driveAck n s).sqMax = s.sqMax := rfl

@[simp] theorem driveAck_sqTaken (n : PState) (s : State) :
    (driveAck n s).sqTaken = s.sqTaken := rfl

@[simp] theorem driveAck_sqHp (n : PState) (s : State) :
    (driveAck n s).sqHp = s.sqHp := rfl

@[simp] theorem driveAck_lastDir (n : PState) (s : State) :
    (driveAck n s).lastDir = s.lastDir := rfl

@[simp] theorem driveAck_cstate (n : PState) (s : State) :
    (driveAck n s).cstate = s.cstate := rfl

@[simp] theorem driveAck_hacc (n : PState) (s : State) :
    (driveAck n s).hacc = s.hacc := rfl

@[simp] theorem driveAck_stimer (n : PState) (s : State) :
    (driveAck n s).stimer = s.stimer := rfl

@[simp] theorem driveAck_position (n : PState) (s : State) :
    (driveAck n s).position = s.position := rfl

@[simp] theorem driveAck_target (n : PState) (s : State) :
    (driveAck n s).target = s.target := rfl

@[simp] theorem driveAck_homed (n : PState) (s : State) :
    (driveAck n s).homed = s.homed := rfl

@[simp] theorem driveAck_hb (n : PState) (s : State) :
    (driveAck n s).hb = s.hb := rfl

@[simp] theorem driveAck_haltCause (n : PState) (s : State) :
    (driveAck n s).haltCause = s.haltCause := rfl

@[simp] theorem driveAck_drive (n : PState) (s : State) :
    (driveAck n s).drive = s.drive := rfl

@[simp] theorem driveAck_script (n : PState) (s : State) :
    (driveAck n s).script = s.script := rfl

@[simp] theorem driveAck_wires (n : PState) (s : State) :
    (driveAck n s).wires = s.wires := rfl

/-! ### `issueMove` -/

@[simp] theorem issueMove_cfg (d : Dir) (n : Word32) (v : Speed) (s : State) :
    (issueMove d n v s).cfg = s.cfg := rfl

@[simp] theorem issueMove_pScl (d : Dir) (n : Word32) (v : Speed) (s : State) :
    (issueMove d n v s).pScl = s.pScl := rfl

@[simp] theorem issueMove_pSda (d : Dir) (n : Word32) (v : Speed) (s : State) :
    (issueMove d n v s).pSda = s.pSda := rfl

@[simp] theorem issueMove_ss (d : Dir) (n : Word32) (v : Speed) (s : State) :
    (issueMove d n v s).ss = s.ss := rfl

@[simp] theorem issueMove_pstate (d : Dir) (n : Word32) (v : Speed) (s : State) :
    (issueMove d n v s).pstate = s.pstate := rfl

@[simp] theorem issueMove_bbEn (d : Dir) (n : Word32) (v : Speed) (s : State) :
    (issueMove d n v s).bbEn = s.bbEn := rfl

@[simp] theorem issueMove_ovf (d : Dir) (n : Word32) (v : Speed) (s : State) :
    (issueMove d n v s).ovf = s.ovf := rfl

@[simp] theorem issueMove_cnt (d : Dir) (n : Word32) (v : Speed) (s : State) :
    (issueMove d n v s).cnt = s.cnt := rfl

@[simp] theorem issueMove_shreg (d : Dir) (n : Word32) (v : Speed) (s : State) :
    (issueMove d n v s).shreg = s.shreg := rfl

@[simp] theorem issueMove_dout (d : Dir) (n : Word32) (v : Speed) (s : State) :
    (issueMove d n v s).dout = s.dout := rfl

@[simp] theorem issueMove_oe (d : Dir) (n : Word32) (v : Speed) (s : State) :
    (issueMove d n v s).oe = s.oe := rfl

@[simp] theorem issueMove_sbr (d : Dir) (n : Word32) (v : Speed) (s : State) :
    (issueMove d n v s).sbr = s.sbr := rfl

@[simp] theorem issueMove_limUp (d : Dir) (n : Word32) (v : Speed) (s : State) :
    (issueMove d n v s).limUp = s.limUp := rfl

@[simp] theorem issueMove_limDn (d : Dir) (n : Word32) (v : Speed) (s : State) :
    (issueMove d n v s).limDn = s.limDn := rfl

@[simp] theorem issueMove_changed (d : Dir) (n : Word32) (v : Speed) (s : State) :
    (issueMove d n v s).changed = s.changed := rfl

@[simp] theorem issueMove_sqPhase (d : Dir) (n : Word32) (v : Speed) (s : State) :
    (issueMove d n v s).sqPhase = s.sqPhase := rfl

@[simp] theorem issueMove_sqTimer (d : Dir) (n : Word32) (v : Speed) (s : State) :
    (issueMove d n v s).sqTimer = s.sqTimer := rfl

@[simp] theorem issueMove_sqMax (d : Dir) (n : Word32) (v : Speed) (s : State) :
    (issueMove d n v s).sqMax = s.sqMax := rfl

@[simp] theorem issueMove_sqTaken (d : Dir) (n : Word32) (v : Speed) (s : State) :
    (issueMove d n v s).sqTaken = s.sqTaken := rfl

@[simp] theorem issueMove_sqHp (d : Dir) (n : Word32) (v : Speed) (s : State) :
    (issueMove d n v s).sqHp = s.sqHp := rfl

@[simp] theorem issueMove_lastDir (d : Dir) (n : Word32) (v : Speed) (s : State) :
    (issueMove d n v s).lastDir = s.lastDir := rfl

@[simp] theorem issueMove_cstate (d : Dir) (n : Word32) (v : Speed) (s : State) :
    (issueMove d n v s).cstate = s.cstate := rfl

@[simp] theorem issueMove_hacc (d : Dir) (n : Word32) (v : Speed) (s : State) :
    (issueMove d n v s).hacc = s.hacc := rfl

@[simp] theorem issueMove_stimer (d : Dir) (n : Word32) (v : Speed) (s : State) :
    (issueMove d n v s).stimer = s.stimer := rfl

@[simp] theorem issueMove_position (d : Dir) (n : Word32) (v : Speed) (s : State) :
    (issueMove d n v s).position = s.position := rfl

@[simp] theorem issueMove_target (d : Dir) (n : Word32) (v : Speed) (s : State) :
    (issueMove d n v s).target = s.target := rfl

@[simp] theorem issueMove_homed (d : Dir) (n : Word32) (v : Speed) (s : State) :
    (issueMove d n v s).homed = s.homed := rfl

@[simp] theorem issueMove_hb (d : Dir) (n : Word32) (v : Speed) (s : State) :
    (issueMove d n v s).hb = s.hb := rfl

@[simp] theorem issueMove_haltCause (d : Dir) (n : Word32) (v : Speed) (s : State) :
    (issueMove d n v s).haltCause = s.haltCause := rfl

@[simp] theorem issueMove_drive (d : Dir) (n : Word32) (v : Speed) (s : State) :
    (issueMove d n v s).drive = s.drive := rfl

@[simp] theorem issueMove_script (d : Dir) (n : Word32) (v : Speed) (s : State) :
    (issueMove d n v s).script = s.script := rfl

@[simp] theorem issueMove_wires (d : Dir) (n : Word32) (v : Speed) (s : State) :
    (issueMove d n v s).wires = { s.wires with move := some { dir := d, spd := v, n := n } } := rfl

/-! ### `beginPulse` -/

@[simp] theorem beginPulse_cfg (hp : Word32) (s : State) :
    (beginPulse hp s).cfg = s.cfg := rfl

@[simp] theorem beginPulse_pScl (hp : Word32) (s : State) :
    (beginPulse hp s).pScl = s.pScl := rfl

@[simp] theorem beginPulse_pSda (hp : Word32) (s : State) :
    (beginPulse hp s).pSda = s.pSda := rfl

@[simp] theorem beginPulse_ss (hp : Word32) (s : State) :
    (beginPulse hp s).ss = s.ss := rfl

@[simp] theorem beginPulse_pstate (hp : Word32) (s : State) :
    (beginPulse hp s).pstate = s.pstate := rfl

@[simp] theorem beginPulse_bbEn (hp : Word32) (s : State) :
    (beginPulse hp s).bbEn = s.bbEn := rfl

@[simp] theorem beginPulse_ovf (hp : Word32) (s : State) :
    (beginPulse hp s).ovf = s.ovf := rfl

@[simp] theorem beginPulse_cnt (hp : Word32) (s : State) :
    (beginPulse hp s).cnt = s.cnt := rfl

@[simp] theorem beginPulse_shreg (hp : Word32) (s : State) :
    (beginPulse hp s).shreg = s.shreg := rfl

@[simp] theorem beginPulse_dout (hp : Word32) (s : State) :
    (beginPulse hp s).dout = s.dout := rfl

@[simp] theorem beginPulse_oe (hp : Word32) (s : State) :
    (beginPulse hp s).oe = s.oe := rfl

@[simp] theorem beginPulse_sbr (hp : Word32) (s : State) :
    (beginPulse hp s).sbr = s.sbr := rfl

@[simp] theorem beginPulse_limUp (hp : Word32) (s : State) :
    (beginPulse hp s).limUp = s.limUp := rfl

@[simp] theorem beginPulse_limDn (hp : Word32) (s : State) :
    (beginPulse hp s).limDn = s.limDn := rfl

@[simp] theorem beginPulse_changed (hp : Word32) (s : State) :
    (beginPulse hp s).changed = s.changed := rfl

@[simp] theorem beginPulse_sqPhase (hp : Word32) (s : State) :
    (beginPulse hp s).sqPhase = .high := rfl

@[simp] theorem beginPulse_sqTimer (hp : Word32) (s : State) :
    (beginPulse hp s).sqTimer = hp - 1 := rfl

@[simp] theorem beginPulse_sqMax (hp : Word32) (s : State) :
    (beginPulse hp s).sqMax = s.sqMax := rfl

@[simp] theorem beginPulse_sqTaken (hp : Word32) (s : State) :
    (beginPulse hp s).sqTaken = s.sqTaken := rfl

@[simp] theorem beginPulse_sqHp (hp : Word32) (s : State) :
    (beginPulse hp s).sqHp = s.sqHp := rfl

@[simp] theorem beginPulse_lastDir (hp : Word32) (s : State) :
    (beginPulse hp s).lastDir = s.lastDir := rfl

@[simp] theorem beginPulse_cstate (hp : Word32) (s : State) :
    (beginPulse hp s).cstate = s.cstate := rfl

@[simp] theorem beginPulse_hacc (hp : Word32) (s : State) :
    (beginPulse hp s).hacc = s.hacc := rfl

@[simp] theorem beginPulse_stimer (hp : Word32) (s : State) :
    (beginPulse hp s).stimer = s.stimer := rfl

@[simp] theorem beginPulse_position (hp : Word32) (s : State) :
    (beginPulse hp s).position = s.position := rfl

@[simp] theorem beginPulse_target (hp : Word32) (s : State) :
    (beginPulse hp s).target = s.target := rfl

@[simp] theorem beginPulse_homed (hp : Word32) (s : State) :
    (beginPulse hp s).homed = s.homed := rfl

@[simp] theorem beginPulse_hb (hp : Word32) (s : State) :
    (beginPulse hp s).hb = s.hb := rfl

@[simp] theorem beginPulse_haltCause (hp : Word32) (s : State) :
    (beginPulse hp s).haltCause = s.haltCause := rfl

@[simp] theorem beginPulse_drive (hp : Word32) (s : State) :
    (beginPulse hp s).drive = s.drive := rfl

@[simp] theorem beginPulse_script (hp : Word32) (s : State) :
    (beginPulse hp s).script = s.script := rfl

@[simp] theorem beginPulse_wires (hp : Word32) (s : State) :
    (beginPulse hp s).wires = s.wires := rfl

/-! ### `enterHalt` -/

@[simp] theorem enterHalt_cfg (c : HaltCause) (s : State) :
    (enterHalt c s).cfg = s.cfg := rfl

@[simp] theorem enterHalt_pScl (c : HaltCause) (s : State) :
    (enterHalt c s).pScl = s.pScl := rfl

@[simp] theorem enterHalt_pSda (c : HaltCause) (s : State) :
    (enterHalt c s).pSda = s.pSda := rfl

@[simp] theorem enterHalt_ss (c : HaltCause) (s : State) :
    (enterHalt c s).ss = s.ss := rfl

@[simp] theorem enterHalt_pstate (c : HaltCause) (s : State) :
    (enterHalt c s).pstate = s.pstate := rfl

@[simp] theorem enterHalt_bbEn (c : HaltCause) (s : State) :
    (enterHalt c s).bbEn = s.bbEn := rfl

@[simp] theorem enterHalt_ovf (c : HaltCause) (s : State) :
    (enterHalt c s).ovf = s.ovf := rfl

@[simp] theorem enterHalt_cnt (c : HaltCause) (s : State) :
    (enterHalt c s).cnt = s.cnt := rfl

@[simp] theorem enterHalt_shreg (c : HaltCause) (s : State) :
    (enterHalt c s).shreg = s.shreg := rfl

@[simp] theorem enterHalt_dout (c : HaltCause) (s : State) :
    (enterHalt c s).dout = s.dout := rfl

@[simp] theorem enterHalt_oe (c : HaltCause) (s : State) :
    (enterHalt c s).oe = s.oe := rfl

@[simp] theorem enterHalt_sbr (c : HaltCause) (s : State) :
    (enterHalt c s).sbr = s.sbr := rfl

@[simp] theorem enterHalt_limUp (c : HaltCause) (s : State) :
    (enterHalt c s).limUp = s.limUp := rfl

@[simp] theorem enterHalt_limDn (c : HaltCause) (s : State) :
    (enterHalt c s).limDn = s.limDn := rfl

@[simp] theorem enterHalt_changed (c : HaltCause) (s : State) :
    (enterHalt c s).changed = s.changed := rfl

@[simp] theorem enterHalt_sqPhase (c : HaltCause) (s : State) :
    (enterHalt c s).sqPhase = .idle := rfl

@[simp] theorem enterHalt_sqTimer (c : HaltCause) (s : State) :
    (enterHalt c s).sqTimer = s.sqTimer := rfl

@[simp] theorem enterHalt_sqMax (c : HaltCause) (s : State) :
    (enterHalt c s).sqMax = s.sqMax := rfl

@[simp] theorem enterHalt_sqTaken (c : HaltCause) (s : State) :
    (enterHalt c s).sqTaken = s.sqTaken := rfl

@[simp] theorem enterHalt_sqHp (c : HaltCause) (s : State) :
    (enterHalt c s).sqHp = s.sqHp := rfl

@[simp] theorem enterHalt_lastDir (c : HaltCause) (s : State) :
    (enterHalt c s).lastDir = s.lastDir := rfl

@[simp] theorem enterHalt_cstate (c : HaltCause) (s : State) :
    (enterHalt c s).cstate = .halt := rfl

@[simp] theorem enterHalt_hacc (c : HaltCause) (s : State) :
    (enterHalt c s).hacc = s.hacc := rfl

@[simp] theorem enterHalt_stimer (c : HaltCause) (s : State) :
    (enterHalt c s).stimer = s.stimer := rfl

@[simp] theorem enterHalt_position (c : HaltCause) (s : State) :
    (enterHalt c s).position = s.position := rfl

@[simp] theorem enterHalt_target (c : HaltCause) (s : State) :
    (enterHalt c s).target = s.target := rfl

@[simp] theorem enterHalt_homed (c : HaltCause) (s : State) :
    (enterHalt c s).homed = s.homed := rfl

@[simp] theorem enterHalt_hb (c : HaltCause) (s : State) :
    (enterHalt c s).hb = s.hb := rfl

@[simp] theorem enterHalt_haltCause (c : HaltCause) (s : State) :
    (enterHalt c s).haltCause = some c := rfl

@[simp] theorem enterHalt_drive (c : HaltCause) (s : State) :
    (enterHalt c s).drive = s.drive := rfl

@[simp] theorem enterHalt_script (c : HaltCause) (s : State) :
    (enterHalt c s).script = s.script := rfl

@[simp] theorem enterHalt_wires (c : HaltCause) (s : State) :
    (enterHalt c s).wires = s.wires := rfl

/-! ### `beginSettle` -/

@[simp] theorem beginSettle_cfg (n : CState) (s : State) :
    (beginSettle n s).cfg = s.cfg := rfl

@[simp] theorem beginSettle_pScl (n : CState) (s : State) :
    (beginSettle n s).pScl = s.pScl := rfl

@[simp] theorem beginSettle_pSda (n : CState) (s : State) :
    (beginSettle n s).pSda = s.pSda := rfl

@[simp] theorem beginSettle_ss (n : CState) (s : State) :
    (beginSettle n s).ss = s.ss := rfl

@[simp] theorem beginSettle_pstate (n : CState) (s : State) :
    (beginSettle n s).pstate = s.pstate := rfl

@[simp] theorem beginSettle_bbEn (n : CState) (s : State) :
    (beginSettle n s).bbEn = s.bbEn := rfl

@[simp] theorem beginSettle_ovf (n : CState) (s : State) :
    (beginSettle n s).ovf = s.ovf := rfl

@[simp] theorem beginSettle_cnt (n : CState) (s : State) :
    (beginSettle n s).cnt = s.cnt := rfl

@[simp] theorem beginSettle_shreg (n : CState) (s : State) :
    (beginSettle n s).shreg = s.shreg := rfl

@[simp] theorem beginSettle_dout (n : CState) (s : State) :
    (beginSettle n s).dout = s.dout := rfl

@[simp] theorem beginSettle_oe (n : CState) (s : State) :
    (beginSettle n s).oe = s.oe := rfl

@[simp] theorem beginSettle_sbr (n : CState) (s : State) :
    (beginSettle n s).sbr = s.sbr := rfl

@[simp] theorem beginSettle_limUp (n : CState) (s : State) :
    (beginSettle n s).limUp = s.limUp := rfl

@[simp] theorem beginSettle_limDn (n : CState) (s : State) :
    (beginSettle n s).limDn = s.limDn := rfl

@[simp] theorem beginSettle_changed (n : CState) (s : State) :
    (beginSettle n s).changed = s.changed := rfl

@[simp] theorem beginSettle_sqPhase (n : CState) (s : State) :
    (beginSettle n s).sqPhase = s.sqPhase := rfl

@[simp] theorem beginSettle_sqTimer (n : CState) (s : State) :
    (beginSettle n s).sqTimer = s.sqTimer := rfl

@[simp] theorem beginSettle_sqMax (n : CState) (s : State) :
    (beginSettle n s).sqMax = s.sqMax := rfl

@[simp] theorem beginSettle_sqTaken (n : CState) (s : State) :
    (beginSettle n s).sqTaken = s.sqTaken := rfl

@[simp] theorem beginSettle_sqHp (n : CState) (s : State) :
    (beginSettle n s).sqHp = s.sqHp := rfl

@[simp] theorem beginSettle_lastDir (n : CState) (s : State) :
    (beginSettle n s).lastDir = s.lastDir := rfl

@[simp] theorem beginSettle_cstate (n : CState) (s : State) :
    (beginSettle n s).cstate = n := rfl

@[simp] theorem beginSettle_hacc (n : CState) (s : State) :
    (beginSettle n s).hacc = s.hacc := rfl

@[simp] theorem beginSettle_stimer (n : CState) (s : State) :
    (beginSettle n s).stimer = s.cfg.settleCycles := rfl

@[simp] theorem beginSettle_position (n : CState) (s : State) :
    (beginSettle n s).position = s.position := rfl

@[simp] theorem beginSettle_target (n : CState) (s : State) :
    (beginSettle n s).target = s.target := rfl

@[simp] theorem beginSettle_homed (n : CState) (s : State) :
    (beginSettle n s).homed = s.homed := rfl

@[simp] theorem beginSettle_hb (n : CState) (s : State) :
    (beginSettle n s).hb = s.hb := rfl

@[simp] theorem beginSettle_haltCause (n : CState) (s : State) :
    (beginSettle n s).haltCause = s.haltCause := rfl

@[simp] theorem beginSettle_drive (n : CState) (s : State) :
    (beginSettle n s).drive = s.drive := rfl

@[simp] theorem beginSettle_script (n : CState) (s : State) :
    (beginSettle n s).script = s.script := rfl

@[simp] theorem beginSettle_wires (n : CState) (s : State) :
    (beginSettle n s).wires = s.wires := rfl

/-! ### `latchOutput` and `advance` -/

@[simp] theorem latchOutput_cfg (s : State) : (latchOutput s).cfg = s.cfg := by
  unfold latchOutput; split <;> rfl

@[simp] theorem latchOutput_pScl (s : State) : (latchOutput s).pScl = s.pScl := by
  unfold latchOutput; split <;> rfl

@[simp] theorem latchOutput_pSda (s : State) : (latchOutput s).pSda = s.pSda := by
  unfold latchOutput; split <;> rfl

@[simp] theorem latchOutput_ss (s : State) : (latchOutput s).ss = s.ss := by
  unfold latchOutput; split <;> rfl

@[simp] theorem latchOutput_pstate (s : State) : (latchOutput s).pstate = s.pstate := by
  unfold latchOutput; split <;> rfl

@[simp] theorem latchOutput_bbEn (s : State) : (latchOutput s).bbEn = s.bbEn := by
  unfold latchOutput; split <;> rfl

@[simp] theorem latchOutput_ovf (s : State) : (latchOutput s).ovf = s.ovf := by
  unfold latchOutput; split <;> rfl

@[simp] theorem latchOutput_cnt (s : State) : (latchOutput s).cnt = s.cnt := by
  unfold latchOutput; split <;> rfl

@[simp] theorem latchOutput_shreg (s : State) : (latchOutput s).shreg = s.shreg := by
  unfold latchOutput; split <;> rfl

@[simp] theorem latchOutput_oe (s : State) : (latchOutput s).oe = s.oe := by
  unfold latchOutput; split <;> rfl

@[simp] theorem latchOutput_sbr (s : State) : (latchOutput s).sbr = s.sbr := by
  unfold latchOutput; split <;> rfl

@[simp] theorem latchOutput_limUp (s : State) : (latchOutput s).limUp = s.limUp := by
  unfold latchOutput; split <;> rfl

@[simp] theorem latchOutput_limDn (s : State) : (latchOutput s).limDn = s.limDn := by
  unfold latchOutput; split <;> rfl

@[simp] theorem latchOutput_changed (s : State) : (latchOutput s).changed = s.changed := by
  unfold latchOutput; split <;> rfl

@[simp] theorem latchOutput_sqPhase (s : State) : (latchOutput s).sqPhase = s.sqPhase := by
  unfold latchOutput; split <;> rfl

@[simp] theorem latchOutput_sqTimer (s : State) : (latchOutput s).sqTimer = s.sqTimer := by
  unfold latchOutput; split <;> rfl

@[simp] theorem latchOutput_sqMax (s : State) : (latchOutput s).sqMax = s.sqMax := by
  unfold latchOutput; split <;> rfl

@[simp] theorem latchOutput_sqTaken (s : State) : (latchOutput s).sqTaken = s.sqTaken := by
  unfold latchOutput; split <;> rfl

@[simp] theorem latchOutput_sqHp (s : State) : (latchOutput s).sqHp = s.sqHp := by
  unfold latchOutput; split <;> rfl

@[simp] theorem latchOutput_lastDir (s : State) : (latchOutput s).lastDir = s.lastDir := by
  unfold latchOutput; split <;> rfl

@[simp] theorem latchOutput_cstate (s : State) : (latchOutput s).cstate = s.cstate := by
  unfold latchOutput; split <;> rfl

@[simp] theorem latchOutput_hacc (s : State) : (latchOutput s).hacc = s.hacc := by
  unfold latchOutput; split <;> rfl

@[simp] theorem latchOutput_stimer (s : State) : (latchOutput s).stimer = s.stimer := by
  unfold latchOutput; split <;> rfl

@[simp] theorem latchOutput_position (s : State) : (latchOutput s).position = s.position := by
  unfold latchOutput; split <;> rfl

@[simp] theorem latchOutput_target (s : State) : (latchOutput s).target = s.target := by
  unfold latchOutput; split <;> rfl

@[simp] theorem latchOutput_homed (s : State) : (latchOutput s).homed = s.homed := by
  unfold latchOutput; split <;> rfl

@[simp] theorem latchOutput_hb (s : State) : (latchOutput s).hb = s.hb := by
  unfold latchOutput; split <;> rfl

@[simp] theorem latchOutput_haltCause (s : State) : (latchOutput s).haltCause = s.haltCause := by
  unfold latchOutput; split <;> rfl

@[simp] theorem latchOutput_drive (s : State) : (latchOutput s).drive = s.drive := by
  unfold latchOutput; split <;> rfl

@[simp] theorem latchOutput_script (s : State) : (latchOutput s).script = s.script := by
  unfold latchOutput; split <;> rfl

@[simp] theorem latchOutput_wires (s : State) : (latchOutput s).wires = s.wires := by
  unfold latchOutput; split <;> rfl

@[simp] theorem latchOutput_dout (s : State) :
    (latchOutput s).dout = if s.wires.busActive && !s.wires.scl then s.shreg.getLsbD 7 else s.dout := by
  unfold latchOutput; split <;> rfl

@[simp] theorem advance_cfg (s : State) : (advance s).cfg = s.cfg := by
  unfold advance; split <;> rfl

@[simp] theorem advance_pScl (s : State) : (advance s).pScl = s.pScl := by
  unfold advance; split <;> rfl

@[simp] theorem advance_pSda (s : State) : (advance s).pSda = s.pSda := by
  unfold advance; split <;> rfl

@[simp] theorem advance_ss (s : State) : (advance s).ss = s.ss := by
  unfold advance; split <;> rfl

@[simp] theorem advance_pstate (s : State) : (advance s).pstate = s.pstate := by
  unfold advance; split <;> rfl

@[simp] theorem advance_bbEn (s : State) : (advance s).bbEn = s.bbEn := by
  unfold advance; split <;> rfl

@[simp] theorem advance_ovf (s : State) : (advance s).ovf = s.ovf := by
  unfold advance; split <;> rfl

@[simp] theorem advance_cnt (s : State) : (advance s).cnt = s.cnt := by
  unfold advance; split <;> rfl

@[simp] theorem advance_shreg (s : State) : (advance s).shreg = s.shreg := by
  unfold advance; split <;> rfl

@[simp] theorem advance_dout (s : State) : (advance s).dout = s.dout := by
  unfold advance; split <;> rfl

@[simp] theorem advance_oe (s : State) : (advance s).oe = s.oe := by
  unfold advance; split <;> rfl

@[simp] theorem advance_sbr (s : State) : (advance s).sbr = s.sbr := by
  unfold advance; split <;> rfl

@[simp] theorem advance_limUp (s : State) : (advance s).limUp = s.limUp := by
  unfold advance; split <;> rfl

@[simp] theorem advance_limDn (s : State) : (advance s).limDn = s.limDn := by
  unfold advance; split <;> rfl

@[simp] theorem advance_changed (s : State) : (advance s).changed = s.changed := by
  unfold advance; split <;> rfl

@[simp] theorem advance_sqPhase (s : State) : (advance s).sqPhase = s.sqPhase := by
  unfold advance; split <;> rfl

@[simp] theorem advance_sqTimer (s : State) : (advance s).sqTimer = s.sqTimer := by
  unfold advance; split <;> rfl

@[simp] theorem advance_sqMax (s : State) : (advance s).sqMax = s.sqMax := by
  unfold advance; split <;> rfl

@[simp] theorem advance_sqTaken (s : State) : (advance s).sqTaken = s.sqTaken := by
  unfold advance; split <;> rfl

@[simp] theorem advance_sqHp (s : State) : (advance s).sqHp = s.sqHp := by
  unfold advance; split <;> rfl

@[simp] theorem advance_lastDir (s : State) : (advance s).lastDir = s.lastDir := by
  unfold advance; split <;> rfl

@[simp] theorem advance_cstate (s : State) : (advance s).cstate = s.cstate := by
  unfold advance; split <;> rfl

@[simp] theorem advance_hacc (s : State) : (advance s).hacc = s.hacc := by
  unfold advance; split <;> rfl

@[simp] theorem advance_stimer (s : State) : (advance s).stimer = s.stimer := by
  unfold advance; split <;> rfl

@[simp] theorem advance_position (s : State) : (advance s).position = s.position := by
  unfold advance; split <;> rfl

@[simp] theorem advance_target (s : State) : (advance s).target = s.target := by
  unfold advance; split <;> rfl

@[simp] theorem advance_homed (s : State) : (advance s).homed = s.homed := by
  unfold advance; split <;> rfl

@[simp] theorem advance_hb (s : State) : (advance s).hb = s.hb := by
  unfold advance; split <;> rfl

@[simp] theorem advance_haltCause (s : State) : (advance s).haltCause = s.haltCause := by
  unfold advance; split <;> rfl

@[simp] theorem advance_drive (s : State) : (advance s).drive = s.script.headD s.drive := by
  unfold advance; split <;> simp_all

@[simp] theorem advance_script (s : State) : (advance s).script = s.script.tail := by
  unfold advance; split <;> simp_all

@[simp] theorem advance_wires (s : State) : (advance s).wires = Wires.rest := by
  unfold advance; split <;> rfl

/-! ### What is formed from the state, at the start of a cycle -/

@[simp] theorem beginCycle_sclDl (s : State) : (beginCycle s).sclDl = s.sclDl := rfl

@[simp] theorem beginCycle_sdaDl (s : State) : (beginCycle s).sdaDl = s.sdaDl := rfl

@[simp] theorem beginCycle_stepOut (s : State) : (beginCycle s).stepOut = s.stepOut := rfl

@[simp] theorem beginCycle_dirOut (s : State) : (beginCycle s).dirOut = s.dirOut := rfl

@[simp] theorem beginCycle_faultOut (s : State) : (beginCycle s).faultOut = s.faultOut := rfl

@[simp] theorem beginCycle_hbOut (s : State) : (beginCycle s).hbOut = s.hbOut := rfl

@[simp] theorem beginCycle_sclIn (s : State) : (beginCycle s).sclIn = s.sclIn := rfl

@[simp] theorem beginCycle_sdaIn (s : State) : (beginCycle s).sdaIn = s.sdaIn := rfl

@[simp] theorem beginCycle_upAsserted (s : State) : (beginCycle s).upAsserted = s.upAsserted := rfl

@[simp] theorem beginCycle_dnAsserted (s : State) : (beginCycle s).dnAsserted = s.dnAsserted := rfl

@[simp] theorem beginCycle_sqCtx (s : State) : (beginCycle s).sqCtx = s.sqCtx := rfl

@[simp] theorem beginCycle_limitPair (s : State) : (beginCycle s).limitPair = s.limitPair := rfl

@[simp] theorem beginCycle_serviceDue (s : State) : (beginCycle s).serviceDue = s.serviceDue := rfl

@[simp] theorem beginCycle_counting (s : State) : (beginCycle s).counting = s.counting := rfl

@[simp] theorem beginCycle_sqIdle (s : State) : (beginCycle s).sqIdle = s.sqIdle := rfl

end Sys2Proof.Machine
end

