-- ==== Sys2Proof/Laws/Ops.lean ====
section
/-! SUPPORT. For each conditional shared operation one lemma that says everything it can do; provers cite these
instead of unfolding the operation. -/

namespace Sys2Proof.Machine

/-! ### Sequencing -/

@[simp] theorem andThen_next (s : State) (f : State → Result) : Result.andThen (.next s) f = f s := rfl

@[simp] theorem andThen_fault (e : Fault) (f : State → Result) : Result.andThen (.fault e) f = .fault e := rfl

@[simp] theorem andThen_refused (e : Refusal) (f : State → Result) : Result.andThen (.refused e) f = .refused e := rfl

theorem andThen_eq_next {r : Result} {f : State → Result} {t : State} :
    Result.andThen r f = .next t ↔ ∃ s, r = .next s ∧ f s = .next t := by
  cases r <;> simp

@[simp] theorem runWords_nil (s : State) : runWords [] s = .next s := rfl

@[simp] theorem runWords_cons (o : OpWord) (os : List OpWord) (s : State) :
    runWords (o :: os) s = Result.andThen (runWord o s) (runWords os) := rfl

theorem runWords_append (os ps : List OpWord) (s : State) :
    runWords (os ++ ps) s = Result.andThen (runWords os s) (runWords ps) := by
  induction os generalizing s with
  | nil => rfl
  | cons o os ih =>
    simp only [List.cons_append, runWords_cons]
    cases runWord o s <;> simp [ih]

/-- A word that decodes runs its operation. -/
theorem runWord_of_decode {o : OpWord} {s : State} {i : Instr} (h : decode s.cfg o = .ok i) :
    runWord o s = exec i s := by
  simp only [runWord, h]

/-- A word that selects nothing is refused by the decoder's name for it. -/
theorem runWord_of_error {o : OpWord} {s : State} {e : DecodeError} (h : decode s.cfg o = .error e) :
    runWord o s = .refused (.undecodable e) := by
  simp only [runWord, h]

/-! ### Bus engine -/

theorem countEdge_cases (s : State) :
    (s.cnt = 15 ∧ countEdge s = { s with cnt := 0, ovf := true }) ∨
    (s.cnt ≠ 15 ∧ countEdge s = { s with cnt := s.cnt + 1 }) := by
  by_cases h : s.cnt = 15
  · exact .inl ⟨h, if_pos (beq_iff_eq.mpr h)⟩
  · exact .inr ⟨h, if_neg (mt beq_iff_eq.mp h)⟩

theorem latchOutput_cases (s : State) :
    (s.wires.busActive = true ∧ s.wires.scl = false ∧ latchOutput s = { s with dout := s.shreg.getLsbD 7 }) ∨
    ((s.wires.busActive = false ∨ s.wires.scl = true) ∧ latchOutput s = s) := by
  cases h : s.wires.busActive <;> cases h' : s.wires.scl <;> simp [latchOutput, h, h']

/-! ### Sequencer -/

theorem acceptMove_cases (m : MoveCmd) (s : State) :
    (m.n = 0 ∧ acceptMove m s = { s with
      lastDir := m.dir, changed := s.wires.setC, sqTaken := 0, sqMax := 0, sqHp := halfPeriod s.cfg m.spd }) ∨
    (m.n ≠ 0 ∧ acceptMove m s = { s with
      lastDir := m.dir, changed := s.wires.setC, sqTaken := 0, sqMax := m.n, sqHp := halfPeriod s.cfg m.spd
      sqPhase := .high, sqTimer := halfPeriod s.cfg m.spd - 1 }) := by
  by_cases h : m.n = 0
  · refine .inl ⟨h, (if_pos (beq_iff_eq.mpr h)).trans ?_⟩
    simp only [burstClear, h]
  · exact .inr ⟨h, if_neg (mt beq_iff_eq.mp h)⟩

theorem endPulse_cases (s : State) :
    ((s.wires.changedM = true ∨ s.sqMax.toNat ≤ (s.sqTaken + 1).toNat) ∧
      endPulse s = { takeChanged s with sqTaken := s.sqTaken + 1, sqPhase := .idle }) ∨
    (s.wires.changedM = false ∧ (s.sqTaken + 1).toNat < s.sqMax.toNat ∧
      endPulse s = { takeChanged s with
        sqTaken := s.sqTaken + 1, sqPhase := .high, sqTimer := s.sqHp - 1 }) := by
  by_cases h : s.wires.changedM || s.sqMax.ule (s.sqTaken + 1)
  · exact .inl ⟨by simpa [BitVec.ule] using h, by simp only [endPulse, takeChanged, h, if_true]⟩
  · refine .inr ⟨?_, ?_, ?_⟩
    · simp_all
    · simp only [Bool.or_eq_true, not_or, BitVec.ule, decide_eq_true_eq] at h
      omega
    · simp only [endPulse, takeChanged, beginPulse, h]
      rfl

/-! ### Controller -/

theorem settle_cases (f : State → State) (s : State) :
    (s.stimer = 0 ∧ settle f s = f s) ∨ (s.stimer ≠ 0 ∧ settle f s = { s with stimer := s.stimer - 1 }) := by
  by_cases h : s.stimer = 0
  · exact .inl ⟨h, if_pos (beq_iff_eq.mpr h)⟩
  · exact .inr ⟨h, if_neg (mt beq_iff_eq.mp h)⟩

theorem verifyPhase_cases (b : Word32) (k : HaltCause) (wrong : Bool) (j : HaltCause) (n : CState) (s : State) :
    (b.toNat ≤ s.hacc.toNat ∧ verifyPhase b k wrong j n s = enterHalt k s) ∨
    (s.hacc.toNat < b.toNat ∧ wrong = true ∧ verifyPhase b k wrong j n s = enterHalt j s) ∨
    (s.hacc.toNat < b.toNat ∧ wrong = false ∧ verifyPhase b k wrong j n s = { s with hacc := 0, cstate := n }) := by
  by_cases h : b.toNat ≤ s.hacc.toNat
  · exact .inl ⟨h, by simp [verifyPhase, State.exhausted, BitVec.ule, h]⟩
  · cases wrong
    · exact .inr (.inr ⟨by omega, rfl, by simp [verifyPhase, State.exhausted, BitVec.ule, h]⟩)
    · exact .inr (.inl ⟨by omega, rfl, by simp [verifyPhase, State.exhausted, BitVec.ule, h]⟩)

theorem awaitBurst_cases (n : CState) (s : State) :
    (s.sqPhase = .idle ∧ awaitBurst n s = { s with
      hacc := s.sqTaken, stimer := s.cfg.settleCycles, cstate := n }) ∨
    (s.sqPhase ≠ .idle ∧ awaitBurst n s = s) := by
  by_cases h : s.sqPhase = .idle <;> simp [awaitBurst, State.sqIdle, beginSettle, h]

/-! ### The end of a cycle -/

/-- The end of a cycle writes the output latch, the sample registers, the environment's drive and the wires, and
nothing else. -/
theorem endCycle_eq (s : State) :
    endCycle s = { s with
      pScl := s.wires.scl, pSda := s.wires.sda
      dout := if s.wires.busActive && !s.wires.scl then s.shreg.getLsbD 7 else s.dout
      drive := s.script.headD s.drive, script := s.script.tail, wires := Wires.rest } := by
  obtain ⟨h, h', e⟩ | ⟨h, e⟩ := latchOutput_cases s
  · simp only [endCycle, e, sampleLines, advance]
    cases hs : s.script <;> simp [h, h']
  · have : (s.wires.busActive && !s.wires.scl) = false := by
      obtain h | h := h <;> simp [h]
    simp only [endCycle, e, sampleLines, advance, this]
    cases hs : s.script <;> simp

end Sys2Proof.Machine
end

