-- ==== Sys2Proof/Laws/PerInstr.lean ====
section
/-! SUPPORT. The per-operation family `EncodeFits`: the word of an operation sets no bit above the width of its slot
(spec/30_encoding.md R80), one lemma per constructor. -/

namespace Sys2Proof.Laws.EncodeFits

/-- The word of the operation fits its slot. -/
def Statement (i : Instr) : Prop := (encode i).bits.toNat < 2 ^ (encode i).slot.wordWidth

/-- A selector no wider than a byte fits a slot at least as wide. -/
theorem opWord_fits {n : Nat} (slot : Slot) (w : BitVec n) (h : n ≤ slot.wordWidth) :
    (opWord slot w).bits.toNat < 2 ^ (opWord slot w).slot.wordWidth :=
  calc
    (w.setWidth 48).toNat ≤ w.toNat := by simpa using Nat.mod_le _ _
    _ < 2 ^ n := w.isLt
    _ ≤ 2 ^ slot.wordWidth := Nat.pow_le_pow_right (by decide) h

theorem limitSample (upN dnN : Bool) : Statement (.limitSample upN dnN) := opWord_fits _ _ (by decide)

theorem takeChanged : Statement .takeChanged := opWord_fits _ _ (by decide)

theorem burstClear (tz : Bool) : Statement (.burstClear tz) := opWord_fits _ _ (by decide)

theorem busGate (c : CState) : Statement (.busGate c) := opWord_fits _ _ (by decide)

theorem busGated (c : CState) : Statement (.busGated c) := opWord_fits _ _ (by decide)

theorem startDetect (ss : SsState) : Statement (.startDetect ss) := opWord_fits _ _ (by decide)

theorem stopDetect (ss : SsState) : Statement (.stopDetect ss) := opWord_fits _ _ (by decide)

theorem startCommit (pScl pSda sda : Bool) : Statement (.startCommit pScl pSda sda) := opWord_fits _ _ (by decide)

theorem settleWait (pScl pSda sda : Bool) : Statement (.settleWait pScl pSda sda) := opWord_fits _ _ (by decide)

theorem sclRise (pSda sda : Bool) : Statement (.sclRise pSda sda) := opWord_fits _ _ (by decide)

theorem sclFall (pSda sda : Bool) : Statement (.sclFall pSda sda) := opWord_fits _ _ (by decide)

theorem sclLow (pSda sda : Bool) : Statement (.sclLow pSda sda) := opWord_fits _ _ (by decide)

theorem sclHigh (a : Bool) : Statement (.sclHigh a) := opWord_fits _ _ (by decide)

theorem count (pScl pSda sda : Bool) : Statement (.count pScl pSda sda) := opWord_fits _ _ (by decide)

theorem caMatchW (d : BusAddr) : Statement (.caMatchW d) := opWord_fits _ _ (by decide)

theorem caMatchR (d : BusAddr) : Statement (.caMatchR d) := opWord_fits _ _ (by decide)

theorem caBcastW : Statement .caBcastW := opWord_fits _ _ (by decide)

theorem caBcastR : Statement .caBcastR := opWord_fits _ _ (by decide)

theorem caNomatch (a : BusAddr) (rw : Bool) : Statement (.caNomatch a rw) := opWord_fits _ _ (by decide)

theorem dataRead : Statement .dataRead := opWord_fits _ _ (by decide)

theorem dataReadAck : Statement .dataReadAck := opWord_fits _ _ (by decide)

theorem dataSend : Statement .dataSend := opWord_fits _ _ (by decide)

theorem dataSendAck : Statement .dataSendAck := opWord_fits _ _ (by decide)

theorem done : Statement .done := opWord_fits _ _ (by decide)

theorem seqStart (tz : Bool) (cmd : MoveCmd) : Statement (.seqStart tz cmd) :=
  calc
    (seqStartBits tz cmd).toNat ≤ (cmd.bits ++ (sqCtxBits .idle tz).setWidth 8).toNat := by
      simpa only [seqStartBits, BitVec.toNat_setWidth] using Nat.mod_le _ _
    _ < 2 ^ 44 := (cmd.bits ++ (sqCtxBits .idle tz).setWidth 8).isLt

theorem seqHighCount : Statement .seqHighCount := opWord_fits _ _ (by decide)

theorem seqHighEnd : Statement .seqHighEnd := opWord_fits _ _ (by decide)

theorem seqLowCount : Statement .seqLowCount := opWord_fits _ _ (by decide)

theorem seqPulseEnd : Statement .seqPulseEnd := opWord_fits _ _ (by decide)

theorem seqIdle (tz : Bool) : Statement (.seqIdle tz) := opWord_fits _ _ (by decide)

theorem h1Check : Statement .h1Check := opWord_fits _ _ (by decide)

theorem h1Move : Statement .h1Move := opWord_fits _ _ (by decide)

theorem h1Settle : Statement .h1Settle := opWord_fits _ _ (by decide)

theorem h2Start : Statement .h2Start := opWord_fits _ _ (by decide)

theorem h2Move : Statement .h2Move := opWord_fits _ _ (by decide)

theorem h2Settle : Statement .h2Settle := opWord_fits _ _ (by decide)

theorem h3Start : Statement .h3Start := opWord_fits _ _ (by decide)

theorem h3Move : Statement .h3Move := opWord_fits _ _ (by decide)

theorem h3Settle : Statement .h3Settle := opWord_fits _ _ (by decide)

theorem h4Start : Statement .h4Start := opWord_fits _ _ (by decide)

theorem h4Move : Statement .h4Move := opWord_fits _ _ (by decide)

theorem h4Settle : Statement .h4Settle := opWord_fits _ _ (by decide)

theorem lCompute : Statement .lCompute := opWord_fits _ _ (by decide)

theorem lMove : Statement .lMove := opWord_fits _ _ (by decide)

theorem lTarget : Statement .lTarget := opWord_fits _ _ (by decide)

theorem halt : Statement .halt := opWord_fits _ _ (by decide)

theorem bothLimits : Statement .bothLimits := opWord_fits _ _ (by decide)

theorem haltEntry (c : HaltCause) : Statement (.haltEntry c) := opWord_fits _ _ (by decide)

theorem reset : Statement .reset := opWord_fits _ _ (by decide)

end Sys2Proof.Laws.EncodeFits
end

