-- ==== Sys2Proof/Tests/Slice0.lean ====
section
/-! SUPPORT. Tests on fixed values: ill-formed operations, words written out from the spec's encodings, single
cycles from spec/95_test_vectors.md (named in each comment), and a witness that the hypotheses of each statement of
Certificates/Slice0/Obligations.lean can be met. -/

namespace Sys2Proof.Tests

open Sys2Proof.Machine

/-- A field of the state an outcome leads to. -/
def see {α : Type} (r : Result) (f : State → α) : Option α := (Result.state? r).map f

/-- The state `Sloop` of 95_test_vectors.md section 0.2. -/
def sloop : State := { State.reset with cstate := .lCompute, homed := true }

/-- P0 with `HP_CRUISE` 2. -/
def slowCfg : Config := { Config.p0 with hpCruise := 2, legal := by decide }

/-- P0 with the bus engine closed during homing and after the halt. -/
def closedCfg : Config :=
  { Config.p0 with busActiveDuringHoming := false, busActiveDuringHalt := false, legal := by decide }

/-- P0 with `DEV_ADDR` 0. -/
def zeroCfg : Config := { Config.p0 with devAddr := 0, legal := by decide }

/-- The pins of the present cycle, both lines released. -/
def pins (up dn : Bool) (s : State) : State := { s with drive := masterCycle up dn true true }

/-- The line sample `p_scl p_sda scl sda` of the present cycle. -/
def sample (pScl pSda scl sda : Bool) (s : State) : State :=
  { s with pScl := pScl, pSda := pSda, drive := masterCycle false false scl sda }

/-- A pending event in protocol state `p` with `shreg` = `b`, as in section 2.4. -/
def pending (p : PState) (b : Byte) (s : State) : State :=
  { sample false true false true s with ovf := true, bbEn := true, pstate := p, shreg := b }

/-- `Sloop` in `L_MOVE` with a burst of `n` steps up, `k` of them taken, under half-period 2. -/
def burst (ph : SqPhase) (timer taken n : Word32) : State :=
  { sloop with
    cfg := slowCfg, cstate := .lMove, target := n, lastDir := .up, sqPhase := ph, sqTimer := timer
    sqTaken := taken, sqMax := n, sqHp := 2 }

/-- A settle state of homing, timer 0. -/
def settleState (c : CState) (hacc : Word32) : State := { State.reset with cstate := c, hacc := hacc }

/-! ### Well-formedness refuses ill-formed operations -/

/-- BUS_GATED needs a controller state that closes the gate (R110). -/
theorem test_busGated_open_gate : Instr.wellFormed Config.p0 (.busGated .h1Move) = false ∧
    Instr.wellFormed closedCfg (.busGated .lMove) = false := by decide

/-- SETTLE_WAIT does not take the samples of a start or a stop (R85). -/
theorem test_settleWait_start_stop : Instr.wellFormed Config.p0 (.settleWait true true false) = false ∧
    Instr.wellFormed Config.p0 (.settleWait true false true) = false := by decide

/-- CA_MATCH_W needs `DEV_ADDR` (R83). -/
theorem test_caMatchW_other_address : Instr.wellFormed Config.p0 (.caMatchW 0x22) = false := by decide

/-- CA_MATCH_R needs `DEV_ADDR` (R83). -/
theorem test_caMatchR_other_address : Instr.wellFormed Config.p0 (.caMatchR 0x20) = false := by decide

/-- With `DEV_ADDR` 0 the bytes 0x00 and 0x01 are CA_MATCH's (log 6). -/
theorem test_caBcast_device_zero : Instr.wellFormed zeroCfg .caBcastW = false ∧
    Instr.wellFormed zeroCfg .caBcastR = false := by decide

/-- CA_NOMATCH takes neither `DEV_ADDR` nor 0 (R83). -/
theorem test_caNomatch_matching : Instr.wellFormed Config.p0 (.caNomatch 0x21 false) = false ∧
    Instr.wellFormed Config.p0 (.caNomatch 0 true) = false := by decide

/-- A parameter record outside R7 is refused by its entry (R239). -/
theorem test_illegal_configurations :
    ({ Config.p0.toParams with scale := 0 } : Params).error? = some .scaleZero ∧
    ({ Config.p0.toParams with scale := 8421505 } : Params).error? = some .scaleTooLarge ∧
    ({ Config.p0.toParams with scale := 8421504 } : Params).error? = none ∧
    ({ Config.p0.toParams with maxUpHomingBackoff := 0 } : Params).error? = some .upHomingBackoff ∧
    ({ Config.p0.toParams with maxHomingSteps := 0x80000000 } : Params).error? = some .homingSteps ∧
    ({ Config.p0.toParams with maxBackoffSteps := 0 } : Params).error? = some .backoffSteps ∧
    ({ Config.p0.toParams with extraBackoffSteps := 0x80000000 } : Params).error? = some .extraBackoff ∧
    ({ Config.p0.toParams with hpP3 := 0 } : Params).error? = some .halfPeriod := by decide

/-! ### Words written out from R80 to R89 decode to their operations -/

/-- LIMIT_PAIR and SQ_CTX words of the monitor. -/
theorem test_decode_monitor :
    decode Config.p0 { slot := .monitor, bits := 0b10 } = .ok (.limitSample true false) ∧
    decode Config.p0 { slot := .takeChanged, bits := 0b101 } = .ok .takeChanged ∧
    decode Config.p0 { slot := .burstClear, bits := 0b001 } = .ok (.burstClear true) ∧
    decode Config.p0 { slot := .takeChanged, bits := 0b100 } = .error .wrongPhase ∧
    decode Config.p0 { slot := .burstClear, bits := 0b010 } = .error .wrongPhase := by decide

/-- CSTATE words of the gate. -/
theorem test_decode_gate :
    decode Config.p0 { slot := .gate, bits := 0b1101 } = .ok (.busGate .lMove) ∧
    decode closedCfg { slot := .gated, bits := 0b1111 } = .ok (.busGated .halt) ∧
    decode closedCfg { slot := .gated, bits := 0b1011 } = .ok (.busGated .h4Settle) ∧
    decode closedCfg { slot := .gated, bits := 0b1100 } = .error .gateOpen := by decide

/-- SS_CTX words. -/
theorem test_decode_startStop :
    decode Config.p0 { slot := .startStop, bits := 0b11110 } = .ok (.startDetect .settle) ∧
    decode Config.p0 { slot := .startStop, bits := 0b01011 } = .ok (.stopDetect .idle) ∧
    decode Config.p0 { slot := .startStop, bits := 0b11001 } = .ok (.startCommit true false true) ∧
    decode Config.p0 { slot := .startStop, bits := 0b11010 } = .ok (.settleWait true false false) ∧
    decode Config.p0 { slot := .startStop, bits := 0b01010 } = .error .noAction := by decide

/-- LINE_SAMPLE words (the classes of section 2.2). -/
theorem test_decode_line :
    decode Config.p0 { slot := .line, bits := 0b0011 } = .ok (.sclRise false true) ∧
    decode Config.p0 { slot := .line, bits := 0b1100 } = .ok (.sclFall true false) ∧
    decode Config.p0 { slot := .line, bits := 0b0101 } = .ok (.sclLow true true) ∧
    decode Config.p0 { slot := .line, bits := 0b1010 } = .ok (.sclHigh false) ∧
    decode Config.p0 { slot := .line, bits := 0b1111 } = .ok (.sclHigh true) ∧
    decode Config.p0 { slot := .line, bits := 0b1110 } = .error .startOrStop ∧
    decode Config.p0 { slot := .line, bits := 0b1011 } = .error .startOrStop ∧
    decode Config.p0 { slot := .counter, bits := 0b1001 } = .ok (.count true false true) ∧
    decode Config.p0 { slot := .counter, bits := 0b0110 } = .ok (.count false true false) ∧
    decode Config.p0 { slot := .counter, bits := 0b1010 } = .error .notAnEdge := by decide

/-- ADDR_BYTE words. -/
theorem test_decode_address :
    decode Config.p0 { slot := .address, bits := 0x42 } = .ok (.caMatchW 0x21) ∧
    decode Config.p0 { slot := .address, bits := 0x43 } = .ok (.caMatchR 0x21) ∧
    decode Config.p0 { slot := .address, bits := 0x00 } = .ok .caBcastW ∧
    decode Config.p0 { slot := .address, bits := 0x01 } = .ok .caBcastR ∧
    decode Config.p0 { slot := .address, bits := 0x21 } = .ok (.caNomatch 0x10 true) ∧
    decode Config.p0 { slot := .address, bits := 0xFE } = .ok (.caNomatch 0x7F false) ∧
    decode zeroCfg { slot := .address, bits := 0x01 } = .ok (.caMatchR 0) := by decide

/-- PSTATE words. -/
theorem test_decode_service :
    decode Config.p0 { slot := .service, bits := 0b001 } = .ok .dataRead ∧
    decode Config.p0 { slot := .service, bits := 0b010 } = .ok .dataReadAck ∧
    decode Config.p0 { slot := .service, bits := 0b011 } = .ok .dataSend ∧
    decode Config.p0 { slot := .service, bits := 0b100 } = .ok .dataSendAck ∧
    decode Config.p0 { slot := .service, bits := 0b101 } = .ok .done ∧
    decode Config.p0 { slot := .service, bits := 0b000 } = .error .byAddressByte := by decide

/-- SQ_CTX words and MOVE_CMD: `dir` 1, `spd` 011, `n` 3 above the selector. -/
theorem test_decode_sequencer :
    decode Config.p0 { slot := .moveIssued, bits := 0b1011_00000000000000000000000000000011_00000000 } =
      .ok (.seqStart false { dir := .up, spd := .p4, n := 3 }) ∧
    decode Config.p0 { slot := .sequencer, bits := 0b010 } = .ok .seqHighCount ∧
    decode Config.p0 { slot := .sequencer, bits := 0b011 } = .ok .seqHighEnd ∧
    decode Config.p0 { slot := .sequencer, bits := 0b100 } = .ok .seqLowCount ∧
    decode Config.p0 { slot := .sequencer, bits := 0b101 } = .ok .seqPulseEnd ∧
    decode Config.p0 { slot := .sequencer, bits := 0b001 } = .ok (.seqIdle true) ∧
    decode Config.p0 { slot := .moveIssued, bits := 0b0000_00000000000000000000000000000011_00000010 } =
      .error .wrongPhase := by decide

/-- CSTATE words of the controller, in homing. -/
theorem test_decode_homing :
    decode Config.p0 { slot := .controller, bits := 0b0000 } = .ok .h1Check ∧
    decode Config.p0 { slot := .controller, bits := 0b0001 } = .ok .h1Move ∧
    decode Config.p0 { slot := .controller, bits := 0b0010 } = .ok .h1Settle ∧
    decode Config.p0 { slot := .controller, bits := 0b0011 } = .ok .h2Start ∧
    decode Config.p0 { slot := .controller, bits := 0b0100 } = .ok .h2Move ∧
    decode Config.p0 { slot := .controller, bits := 0b0101 } = .ok .h2Settle ∧
    decode Config.p0 { slot := .controller, bits := 0b0110 } = .ok .h3Start ∧
    decode Config.p0 { slot := .controller, bits := 0b0111 } = .ok .h3Move ∧
    decode Config.p0 { slot := .controller, bits := 0b1000 } = .ok .h3Settle ∧
    decode Config.p0 { slot := .controller, bits := 0b1001 } = .ok .h4Start ∧
    decode Config.p0 { slot := .controller, bits := 0b1010 } = .ok .h4Move ∧
    decode Config.p0 { slot := .controller, bits := 0b1011 } = .ok .h4Settle := by decide

/-- CSTATE words of the controller in the loop and the halt, LIMIT_PAIR, HALT_CAUSE and RST words. -/
theorem test_decode_loop_and_system :
    decode Config.p0 { slot := .controller, bits := 0b1100 } = .ok .lCompute ∧
    decode Config.p0 { slot := .controller, bits := 0b1101 } = .ok .lMove ∧
    decode Config.p0 { slot := .controller, bits := 0b1110 } = .ok .lTarget ∧
    decode Config.p0 { slot := .controller, bits := 0b1111 } = .ok .halt ∧
    decode Config.p0 { slot := .bothLimits, bits := 0b11 } = .ok .bothLimits ∧
    decode Config.p0 { slot := .bothLimits, bits := 0b10 } = .error .notBothLimits ∧
    decode Config.p0 { slot := .haltEntry, bits := 0b100 } = .ok (.haltEntry .downMissing) ∧
    decode Config.p0 { slot := .haltEntry, bits := 0b000 } = .error .noHalt ∧
    decode Config.p0 { slot := .rst, bits := 1 } = .ok .reset ∧
    decode Config.p0 { slot := .rst, bits := 0 } = .error .notReset := by decide

/-- A bare table word is read by the convention of log 12. -/
theorem test_decodeTableWord :
    decodeTableWord 8 0b1001 = some .h4Start ∧ decodeTableWord 8 0b10000 = some (.startCommit false false false) ∧
    decodeTableWord 8 0x42 = some (.caMatchW 0x21) ∧ decodeTableWord 16 0 = none := by decide

/-- The next cycle selects a placed table word. -/
theorem test_placed_word_is_selected :
    opWord .controller (0b1110 : BitVec 4) ∈ selections (beginCycle (State.reset.withFetchWord 8 0b1110)) ∧
    opWord .startStop (0b11011 : BitVec 5) ∈ selections (beginCycle (State.reset.withFetchWord 8 0b11011)) ∧
    opWord .address (0x42 : BitVec 8) ∈ selections (beginCycle (State.reset.withFetchWord 8 0x42)) := by decide

/-! ### Limit monitor (section 2.1) -/

/-- M2 and M3, as operations. -/
theorem test_limitSample_flips :
    see (exec (.limitSample true false) State.reset) (fun t => (t.limUp, t.limDn, t.changed)) =
      some (true, false, true) ∧
    see (exec (.limitSample false false) { State.reset with limUp := true, changed := true })
      (fun t => (t.limUp, t.limDn, t.changed)) = some (false, false, true) := by decide

/-- M4 and M10 over a cycle in the loop. -/
theorem test_monitor_over_a_cycle :
    see (step (pins false true { sloop with limDn := true, changed := true }))
      (fun t => (t.limUp, t.limDn, t.changed)) = some (false, true, true) ∧
    see (step (pins true false { sloop with limUp := true, limDn := true }))
      (fun t => (t.limUp, t.limDn, t.changed)) = some (true, false, true) := by decide

/-- M8: a flip in the pulse-end cycle is returned and not kept. -/
theorem test_takeChanged_same_cycle :
    see (step (pins true false (burst .low 0 0 5))) (fun t => (t.limUp, t.changed, t.sqPhase)) =
      some (true, false, .idle) := by decide

/-- M6: a flip in the accept cycle counts; M5: a stale one does not. -/
theorem test_burstClear_accept :
    see (step (pins false true { sloop with target := 3, changed := true })) (fun t => (t.limDn, t.changed)) =
      some (true, true) ∧
    see (step { sloop with target := 3, changed := true }) (fun t => (t.sqPhase, t.changed)) =
      some (.high, false) := by decide

/-! ### Framing (section 2.3) -/

/-- F1 and F2. -/
theorem test_sclRise :
    see (step (sample false false true false { sloop with bbEn := true, cnt := 4, shreg := 0x01 }))
      (fun t => (t.cnt, t.shreg)) = some (5, 0x02) ∧
    see (step (sample false true true true { sloop with bbEn := true, cnt := 12, shreg := 0x10 }))
      (fun t => (t.cnt, t.shreg)) = some (13, 0x21) := by decide

/-- F4: counting off. -/
theorem test_sclRise_not_counted :
    see (step (sample false true true true { sloop with cnt := 7, shreg := 0x07 }))
      (fun t => (t.cnt, t.shreg, t.ovf)) = some (7, 0x07, false) := by decide

/-- F3: the sixteenth edge. -/
theorem test_sclFall_overflow :
    see (step (sample true true false true { sloop with bbEn := true, cnt := 15, shreg := 0x42 }))
      (fun t => (t.cnt, t.ovf, t.dout, t.sclDl)) = some (0, true, false, true) := by decide

/-- COUNT as an operation: it shifts nothing. -/
theorem test_count :
    see (exec (.count true false true) { sloop with cnt := 15, shreg := 0x42 }) (fun t => (t.cnt, t.ovf, t.shreg)) =
      some (0, true, 0x42) := by decide

/-- F5, and SCL_LOW likewise. -/
theorem test_sclHigh_and_sclLow :
    see (step (sample true true true true { sloop with bbEn := true, cnt := 3 })) (fun t => (t.cnt, t.shreg)) =
      some (3, 0) ∧
    see (step (sample false true false false { sloop with bbEn := true, cnt := 3, shreg := 0x96 }))
      (fun t => (t.cnt, t.shreg, t.dout)) = some (3, 0x96, true) := by decide

/-- F6. -/
theorem test_startDetect :
    see (step (sample true true true false { sloop with pstate := .dataSendAck, bbEn := true, oe := true, cnt := 5 }))
      (fun t => (t.pstate, t.bbEn, t.ovf, t.oe, t.ss, t.cnt)) =
      some (.checkAddress, false, false, false, .settle, 5) := by decide

/-- F9 and F10. -/
theorem test_stopDetect :
    see (step (sample true false true true { sloop with ss := .settle })) (fun t => (t.ss, t.bbEn)) =
      some (.idle, false) ∧
    see (step (sample true false true true { sloop with pstate := .dataReadAck, bbEn := true, cnt := 7 }))
      (fun t => (t.pstate, t.bbEn, t.ss, t.cnt)) = some (.dataReadAck, false, .idle, 7) := by decide

/-- F8: the fall of the commit cycle is not counted. -/
theorem test_startCommit :
    see (step (sample true false false false { sloop with ss := .settle, cnt := 7 }))
      (fun t => (t.ss, t.bbEn, t.cnt, t.ovf)) = some (.idle, true, 0, false) := by decide

/-- F7. -/
theorem test_settleWait :
    see (step (sample true false true false { sloop with ss := .settle })) (fun t => (t.ss, t.bbEn)) =
      some (.settle, false) := by decide

/-- F11 and F12: the output latch. -/
theorem test_output_latch :
    see (step (sample false true false true { sloop with dout := false, shreg := 0x96 })) (·.dout) = some true ∧
    see (step (sample true true true true { sloop with dout := false, shreg := 0x96 })) (·.dout) = some false := by
  decide

/-- R110: the gate by state and parameter. -/
theorem test_busGate :
    see (exec (.busGate .h4Settle) { sloop with cfg := closedCfg }) (·.wires.busActive) = some false ∧
    see (exec (.busGate .lTarget) { sloop with cfg := closedCfg }) (·.wires.busActive) = some true := by decide

/-- R111: a gated cycle. -/
theorem test_busGated :
    see (step { sample true true false true sloop with
        cfg := closedCfg, cstate := .halt, bbEn := true, oe := true, cnt := 9, shreg := 0x42, sbr := 0x2A
        haltCause := some .bothLimits })
      (fun t => (t.bbEn, t.oe, t.cnt, t.shreg, t.sbr, t.pScl)) = some (false, false, 0, 0, 0x2A, false) := by decide

/-! ### Services (section 2.4) -/

/-- V1. -/
theorem test_caMatchW :
    see (step (pending .checkAddress 0x42 sloop)) (fun t => (t.pstate, t.shreg, t.oe, t.cnt, t.dout, t.ovf)) =
      some (.dataRead, 0, true, 14, false, false) := by decide

/-- V2. -/
theorem test_caMatchR :
    see (step (pending .checkAddress 0x43 sloop)) (fun t => (t.pstate, t.shreg, t.oe, t.cnt, t.dout, t.ovf)) =
      some (.dataSend, 0, true, 14, false, false) := by decide

/-- V3. -/
theorem test_caBcastW :
    see (step (pending .checkAddress 0x00 sloop)) (fun t => (t.pstate, t.oe, t.cnt, t.ovf)) =
      some (.dataRead, true, 14, false) := by decide

/-- V4. -/
theorem test_caBcastR :
    see (step (pending .checkAddress 0x01 sloop)) (fun t => (t.pstate, t.oe, t.cnt, t.ovf)) =
      some (.dataSend, true, 14, false) := by decide

/-- V5. -/
theorem test_caNomatch :
    see (step (pending .checkAddress 0x44 sloop)) (fun t => (t.bbEn, t.oe, t.pstate, t.shreg, t.cnt, t.ovf)) =
      some (false, false, .checkAddress, 0x44, 0, false) := by decide

/-- V7. -/
theorem test_dataRead :
    see (step { pending .dataRead 0x00 sloop with oe := true, cnt := 3 }) (fun t => (t.pstate, t.oe, t.cnt, t.ovf)) =
      some (.dataReadAck, false, 0, false) := by decide

/-- V8. -/
theorem test_dataReadAck :
    see (step (pending .dataReadAck 0x2A sloop)) (fun t => (t.pstate, t.sbr, t.shreg, t.oe, t.cnt, t.dout)) =
      some (.done, 0x2A, 0, true, 14, false) := by decide

/-- V9. -/
theorem test_dataSend :
    see (step { pending .dataSend 0 sloop with sbr := 0x96 }) (fun t => (t.pstate, t.shreg, t.oe, t.cnt, t.dout)) =
      some (.dataSendAck, 0x96, true, 0, true) := by decide

/-- V10. -/
theorem test_dataSendAck :
    see (step { pending .dataSendAck 0 sloop with oe := true }) (fun t => (t.pstate, t.oe, t.cnt, t.ovf)) =
      some (.done, false, 14, false) := by decide

/-- V11. -/
theorem test_done :
    see (step { pending .done 0 sloop with oe := true }) (fun t => (t.pstate, t.oe, t.bbEn, t.ovf)) =
      some (.done, false, false, false) := by decide

/-! ### Step sequencer (section 2.5) -/

/-- Q0a. -/
theorem test_seqStart :
    see (exec (.seqStart true { dir := .up, spd := .cruise, n := 3 }) { sloop with cfg := slowCfg, changed := true })
      (fun t => (t.sqPhase, t.sqTimer, t.sqMax, t.sqHp, t.lastDir, t.changed)) = some (.high, 1, 3, 2, .up, false) := by decide

/-- Q0b. -/
theorem test_seqStart_no_step :
    see (exec (.seqStart true { dir := .up, spd := .p4, n := 0 })
        { sloop with wires := { Wires.rest with setC := true } })
      (fun t => (t.sqPhase, t.sqTaken, t.sqMax, t.lastDir, t.changed)) = some (.idle, 0, 0, .up, true) := by decide

/-- Q0c. -/
theorem test_seqHighCount :
    see (step (burst .high 1 0 3)) (fun t => (t.sqPhase, t.sqTimer)) = some (.high, 0) := by decide

/-- Q0d. -/
theorem test_seqHighEnd :
    see (step (burst .high 0 0 3)) (fun t => (t.sqPhase, t.sqTimer)) = some (.low, 1) := by decide

/-- Q0e. -/
theorem test_seqLowCount :
    see (step (burst .low 1 0 3)) (fun t => (t.sqPhase, t.sqTimer)) = some (.low, 0) := by decide

/-- Q0f and Q0g. -/
theorem test_seqPulseEnd :
    see (step (burst .low 0 0 3)) (fun t => (t.sqTaken, t.sqPhase, t.sqTimer, t.changed)) =
      some (1, .high, 1, false) ∧
    see (step (burst .low 0 2 3)) (fun t => (t.sqTaken, t.sqPhase)) = some (3, .idle) := by decide

/-- Q0h. -/
theorem test_seqPulseEnd_aborts :
    see (step { burst .low 0 1 5 with changed := true }) (fun t => (t.sqTaken, t.sqPhase, t.changed)) =
      some (2, .idle, false) := by decide

/-- R168: the last count stays. -/
theorem test_seqIdle :
    see (exec (.seqIdle true) { sloop with sqTaken := 7 }) (fun t => (t.sqPhase, t.sqTaken)) = some (.idle, 7) := by
  decide

/-! ### Homing (section 2.6) -/

/-- H1, cycle 0, and H2, cycle 0. -/
theorem test_h1Check :
    see (step (pins true false State.reset))
      (fun t => (t.cstate, t.sqMax, t.lastDir, t.sqPhase)) = some (.h1Move, 10, .down, .high) ∧
    see (step State.reset) (fun t => (t.cstate, t.stimer, t.sqPhase)) = some (.h1Settle, 2, .idle) := by decide

/-- H1, cycle 7. -/
theorem test_h1Move :
    see (step { State.reset with cstate := .h1Move, sqTaken := 3, sqMax := 10 }) (fun t => (t.cstate, t.hacc)) =
      some (.h1Check, 3) := by decide

/-- H1, cycle 11, and H4a (exhaustion first, the switch released). -/
theorem test_h1Settle :
    see (step (settleState .h1Settle 3)) (fun t => (t.cstate, t.hacc)) = some (.h2Start, 0) ∧
    see (step (settleState .h1Settle 10)) (fun t => (t.cstate, t.haltCause)) = some (.halt, some .upBudget) := by
  decide

/-- H4c. -/
theorem test_h1Settle_stuck :
    see (step (pins true false (settleState .h1Settle 3))) (fun t => (t.cstate, t.haltCause, t.faultOut)) =
      some (.halt, some .upStuck, true) := by decide

/-- H1, cycle 12, and H3, cycle 4. -/
theorem test_h2Start :
    see (step { State.reset with cstate := .h2Start }) (fun t => (t.cstate, t.sqMax, t.lastDir)) =
      some (.h2Move, 100, .down) ∧
    see (step (pins false true { State.reset with cstate := .h2Start })) (fun t => (t.cstate, t.hacc, t.sqPhase)) =
      some (.h2Settle, 0, .idle) := by decide

/-- H1, cycle 87. -/
theorem test_h2Move :
    see (step { State.reset with cstate := .h2Move, sqTaken := 37, sqMax := 100 })
      (fun t => (t.cstate, t.hacc, t.stimer)) = some (.h2Settle, 37, 2) := by decide

/-- H1, cycle 90, and H4e (exhaustion first, the switch asserted). -/
theorem test_h2Settle :
    see (step (pins false true (settleState .h2Settle 37))) (fun t => (t.cstate, t.hacc)) = some (.h3Start, 0) ∧
    see (step (pins false true (settleState .h2Settle 100))) (fun t => (t.cstate, t.haltCause)) =
      some (.halt, some .seekBudget) := by decide

/-- H4f. -/
theorem test_h2Settle_missing :
    see (step (settleState .h2Settle 37)) (fun t => (t.cstate, t.haltCause)) = some (.halt, some .downMissing) := by
  decide

/-- H1, cycle 91. -/
theorem test_h3Start :
    see (step { State.reset with cstate := .h3Start }) (fun t => (t.cstate, t.sqMax, t.lastDir)) =
      some (.h3Move, 20, .up) := by decide

/-- H1, cycle 94. -/
theorem test_h3Move :
    see (step { State.reset with cstate := .h3Move, sqTaken := 1, sqMax := 20 })
      (fun t => (t.cstate, t.hacc, t.stimer)) = some (.h3Settle, 1, 2) := by decide

/-- H1, cycle 97, and H4g. -/
theorem test_h3Settle :
    see (step (settleState .h3Settle 1)) (fun t => (t.cstate, t.hacc)) = some (.h4Start, 0) ∧
    see (step (settleState .h3Settle 20)) (fun t => (t.cstate, t.haltCause)) =
      some (.halt, some .backoffBudget) := by decide

/-- H4h. -/
theorem test_h3Settle_stuck :
    see (step (pins false true (settleState .h3Settle 1))) (fun t => (t.cstate, t.haltCause)) =
      some (.halt, some .downStuck) := by decide

/-- H1, cycle 98, and Q3 (no extra steps). -/
theorem test_h4Start :
    see (step { State.reset with cstate := .h4Start }) (fun t => (t.cstate, t.sqMax, t.sqPhase)) =
      some (.h4Move, 3, .high) ∧
    see (step { State.reset with
        cstate := .h4Start, cfg := { Config.p0 with extraBackoffSteps := 0, legal := by decide }, sqTaken := 1 })
      (fun t => (t.cstate, t.sqMax, t.sqPhase, t.sqTaken)) = some (.h4Move, 0, .idle, 0) := by decide

/-- H1, cycle 105: the steps taken are not stored. -/
theorem test_h4Move :
    see (step { State.reset with cstate := .h4Move, sqTaken := 3, sqMax := 3 })
      (fun t => (t.cstate, t.hacc, t.stimer)) = some (.h4Settle, 0, 2) := by decide

/-- H1, cycle 108. -/
theorem test_h4Settle :
    see (step (settleState .h4Settle 0)) (fun t => (t.cstate, t.position, t.homed)) = some (.lCompute, 0, true) ∧
    see (step { settleState .h4Settle 0 with stimer := 2 }) (fun t => (t.cstate, t.stimer, t.homed)) =
      some (.h4Settle, 1, false) := by decide

/-! ### Position loop and halt (sections 2.5, 2.7) -/

/-- The example of R201, and a target below the position. -/
theorem test_lCompute :
    see (step { sloop with target := 168 }) (fun t => (t.cstate, t.sqMax, t.lastDir)) = some (.lMove, 168, .up) ∧
    see (step { sloop with position := 168, target := 8 }) (fun t => (t.cstate, t.sqMax, t.lastDir)) =
      some (.lMove, 160, .down) := by decide

/-- The example of R202, and a burst down. -/
theorem test_lMove :
    see (step { burst .idle 0 50 168 with target := 168 }) (fun t => (t.cstate, t.position)) =
      some (.lTarget, 50) ∧
    see (step { burst .idle 0 3 3 with lastDir := .down, position := 10, target := 7 })
      (fun t => (t.cstate, t.position)) = some (.lTarget, 7) := by decide

/-- E7: 0x2A and 0xFF with `SCALE` 4. -/
theorem test_lTarget :
    see (step { sloop with cstate := .lTarget, sbr := 0x2A }) (fun t => (t.cstate, t.target, t.hb)) =
      some (.lCompute, 168, true) ∧
    see (step { sloop with cstate := .lTarget, sbr := 0xFF }) (·.target) = some 1020 := by decide

/-- V12: the loop reads the old SBR. -/
theorem test_lTarget_reads_pre_state :
    see (step { pending .dataReadAck 0x2A sloop with cstate := .lTarget }) (fun t => (t.sbr, t.target)) =
      some (0x2A, 0) := by decide

/-- R224: nothing moves in HALT, with both switches asserted too. -/
theorem test_halt :
    see (step (pins true true { sloop with cstate := .halt, haltCause := some .upStuck, target := 9 }))
      (fun t => (t.cstate, t.haltCause, t.stepOut, t.faultOut, t.changed)) =
      some (.halt, some .upStuck, false, true, true) := by decide

/-- Q0i: both limits stop a pulse; and not with `BOTH_LIMITS_HALT` 0. -/
theorem test_bothLimits :
    see (step (pins true true (burst .high 0 0 3))) (fun t => (t.cstate, t.haltCause, t.sqPhase, t.sqTimer)) =
      some (.halt, some .bothLimits, .idle, 0) ∧
    see (step (pins true true { burst .high 0 0 3 with
        cfg := { slowCfg with bothLimitsHalt := false, legal := by decide } })) (fun t => (t.cstate, t.sqPhase)) =
      some (.lMove, .low) := by decide

/-- R223: what the halt primitive writes. -/
theorem test_haltEntry :
    see (exec (.haltEntry .seekBudget) (burst .high 1 2 3))
      (fun t => (t.cstate, t.haltCause, t.sqPhase, t.sqTaken, t.homed)) =
      some (.halt, some .seekBudget, .idle, 2, true) := by decide

/-- R250: reset leaves the halt, samples the lines and the pins and reloads SBR. -/
theorem test_reset :
    see (step { sloop with
        cstate := .halt, haltCause := some .bothLimits, sbr := 0x2A, oe := true, dout := false
        drive := { rst := true, scl := false, sda := true, limUpPin := true, limDnPin := false } })
      (fun t => (t.cstate, t.sbr, t.pScl, t.pSda, t.limUp, t.limDn)) =
      some (.h1Check, 0, false, false, true, false) ∧
    see (step { sloop with drive := { sloop.drive with rst := true } }) (fun t => (t.homed, t.sqHp)) =
      some (false, 1) := by decide

/-! ### Witnesses: the hypotheses of each statement can be met

One theorem `witness_<Name>` for `Obligations.<Name>`; where the statement has several cases, one conjunct per case,
at its boundary values. -/

/-- `Sloop` with an address byte just shifted in, its sixteenth edge in this cycle. -/
def lastEdge : State := sample true false false false { sloop with bbEn := true, cnt := 15, shreg := 0x42 }

/-- A pulse about to begin its first cycle, four steps requested, the bus line of `Sloop` idle. -/
def pulse : State := burst .high 1 0 4

/-- `pulse` with a flip of the up switch in its last cycle. -/
def pulseFlip : State :=
  { pulse with script := [pulse.drive, pulse.drive, masterCycle true false true true] }

/-- `Sloop` with a script of the master's. -/
def scripted (l : List ScriptItem) : State :=
  { sloop with drive := masterCycle false false true true, script := scriptDrives false false false l }

theorem inv_sloop : sloop.Inv := by
  refine ⟨⟨?_, ?_, ?_, ?_, ?_, ?_⟩, ?_, ?_, ?_, ?_, ?_, ?_, ?_, ?_, ?_, ?_⟩ <;> decide

theorem inv_lastEdge : lastEdge.Inv := by
  refine ⟨⟨?_, ?_, ?_, ?_, ?_, ?_⟩, ?_, ?_, ?_, ?_, ?_, ?_, ?_, ?_, ?_, ?_⟩ <;> decide

theorem inv_pending : (pending .dataRead 0x2A sloop).Inv := by
  refine ⟨⟨?_, ?_, ?_, ?_, ?_, ?_⟩, ?_, ?_, ?_, ?_, ?_, ?_, ?_, ?_, ?_, ?_⟩ <;> decide

theorem inv_pulse : pulse.Inv := by
  refine ⟨⟨?_, ?_, ?_, ?_, ?_, ?_⟩, ?_, ?_, ?_, ?_, ?_, ?_, ?_, ?_, ?_, ?_⟩ <;> decide

theorem inv_pulseFlip : pulseFlip.Inv := by
  refine ⟨⟨?_, ?_, ?_, ?_, ?_, ?_⟩, ?_, ?_, ?_, ?_, ?_, ?_, ?_, ?_, ?_, ?_⟩ <;> decide

theorem inv_pulseEnd : (burst .low 0 2 4).Inv ∧ (burst .low 0 3 4).Inv ∧ (burst .low 1 3 4).Inv := by
  refine ⟨⟨⟨?_, ?_, ?_, ?_, ?_, ?_⟩, ?_, ?_, ?_, ?_, ?_, ?_, ?_, ?_, ?_, ?_⟩,
    ⟨⟨?_, ?_, ?_, ?_, ?_, ?_⟩, ?_, ?_, ?_, ?_, ?_, ?_, ?_, ?_, ?_, ?_⟩,
    ⟨?_, ?_, ?_, ?_, ?_, ?_⟩, ?_, ?_, ?_, ?_, ?_, ?_, ?_, ?_, ?_, ?_⟩ <;> decide

theorem inv_targets : ({ sloop with target := 168 } : State).Inv ∧ ({ sloop with position := 1020 } : State).Inv := by
  refine ⟨⟨⟨?_, ?_, ?_, ?_, ?_, ?_⟩, ?_, ?_, ?_, ?_, ?_, ?_, ?_, ?_, ?_, ?_⟩,
    ⟨?_, ?_, ?_, ?_, ?_, ?_⟩, ?_, ?_, ?_, ?_, ?_, ?_, ?_, ?_, ?_, ?_⟩ <;> decide

/-- A burst over, up and down. -/
def burstOver (d : Dir) : State :=
  { burst .idle 0 3 4 with lastDir := d, position := if d = .up then 0 else 4, target := if d = .up then 4 else 0 }

theorem inv_burstOver : (burstOver .up).Inv ∧ (burstOver .down).Inv := by
  refine ⟨⟨⟨?_, ?_, ?_, ?_, ?_, ?_⟩, ?_, ?_, ?_, ?_, ?_, ?_, ?_, ?_, ?_, ?_⟩,
    ⟨?_, ?_, ?_, ?_, ?_, ?_⟩, ?_, ?_, ?_, ?_, ?_, ?_, ?_, ?_, ?_, ?_⟩ <;> decide

theorem witness_DecodeOfEncode : Instr.wellFormed Config.p0 (.caMatchW 0x21) = true ∧
    Instr.wellFormed zeroCfg (.caMatchR 0) = true ∧ Instr.wellFormed closedCfg (.busGated .halt) = true ∧
    Instr.wellFormed Config.p0 (.settleWait true true true) = true := by decide

theorem witness_EncodeOfDecode :
    decode Config.p0 { slot := .address, bits := 0xFF } = .ok (.caNomatch 0x7F true) := by decide

theorem witness_ReservedWordsAreRejected :
    6 ≤ (6 : BitVec 3).toNat ∧ 6 ≤ (7 : BitVec 3).toNat ∧ 5 ≤ (5 : BitVec 3).toNat ∧ 5 ≤ (7 : BitVec 3).toNat ∧
    2 ^ (Slot.wordWidth .rst) ≤ (2 : BitVec 48).toNat ∧ 2 ^ (Slot.wordWidth .moveIssued) ≤ (2 ^ 44 : BitVec 48).toNat := by
  decide

theorem witness_SelectedWordsDecode :
    opWord .startStop (0b00000 : BitVec 5) ∉ selections (beginCycle sloop) ∧
    opWord .service (0b001 : BitVec 3) ∈ selections (beginCycle (pending .dataRead 0 sloop)) ∧
    opWord .sequencer (0b001 : BitVec 3) ∈ sequencerSelection (beginCycle sloop) sloop := by decide

theorem witness_StepRunsTheDecodedOperations :
    sloop.drive.rst = false ∧ ∃ (ops : List Instr) (c : State) (sq : List Instr) (c' : State),
      List.Forall₂ (fun o i => decode sloop.cfg o = .ok i) (selections (beginCycle sloop)) ops ∧
      execAll ops (beginCycle sloop) = .next c ∧
      List.Forall₂ (fun o i => decode sloop.cfg o = .ok i) (sequencerSelection (beginCycle sloop) c) sq ∧
      execAll sq c = .next c' :=
  ⟨rfl, [.limitSample false false, .busGate .lCompute, .sclHigh true, .lCompute], _, [.seqIdle true], _,
    .cons (by decide) (.cons (by decide) (.cons (by decide) (.cons (by decide) .nil))), rfl,
    .cons (by decide) .nil, rfl⟩

theorem witness_ResetGivesTheResetState :
    ({ sloop with drive := { sloop.drive with rst := true } } : State).drive.rst = true := rfl

theorem witness_LimitRegistersFollowThePins : sloop.drive.rst = false ∧
    (pins true true { sloop with cstate := .halt }).drive.rst = false := by decide

/-- An accept, a pulse end and neither. -/
theorem witness_ChangedFlagOverACycle :
    see (step { sloop with target := 3 }) (fun t => (moving sloop.cstate, moving t.cstate)) = some (false, true) ∧
    sloop.sqPhase = .idle ∧
    (burst .low 0 0 3).sqPhase = .low ∧ (burst .low 0 0 3).sqTimer = 0 ∧
    see (step (burst .low 0 0 3)) (·.cstate) = some .lMove ∧
    see (step sloop) (fun t => moving t.cstate) = some false ∧ sloop.drive.rst = false := by decide

theorem witness_SixteenEdgesReceiveAByte :
    ({ sloop with bbEn := true } : State).bbEn = true ∧ ({ sloop with bbEn := true } : State).ovf = false ∧
    ({ sloop with bbEn := true } : State).cnt = 0 ∧ ({ sloop with bbEn := true, cnt := 14 } : State).cnt = 14 := by
  decide

theorem witness_SentBitsAreTheBytesBits :
    ({ sloop with bbEn := true } : State).bbEn = true ∧ ({ sloop with bbEn := true } : State).ovf = false ∧
    ({ sloop with bbEn := true } : State).cnt = 0 ∧ ([] : List Bool).length ≤ 7 ∧
    [true, false, true, false, true, false, true].length ≤ 7 := by decide

/-- Closed in homing, and closed in the halt. -/
theorem witness_ClosedGateHoldsTheBusEngine :
    (let s : State := { State.reset with cfg := closedCfg, cstate := .h4Settle }
     s.drive.rst = false ∧ s.cstate.homing = true ∧ s.cfg.busActiveDuringHoming = false) ∧
    (let s : State := { sloop with cfg := closedCfg, cstate := .halt }
     s.drive.rst = false ∧ s.cstate = .halt ∧ s.cfg.busActiveDuringHalt = false) := by decide

/-- A start, a stop, settle with SCL high and low, and none of these. -/
theorem witness_StartStopUnitOverACycle :
    (∀ s ∈ [sample true true true false sloop, sample true false true true sloop,
        sample true true true true { sloop with ss := .settle },
        sample true true false true { sloop with ss := .settle }, sloop],
      s.drive.rst = false ∧ s.cfg.busActive s.cstate = true) ∧
    (beginCycle (sample true true true false sloop)).startSeen = true ∧
    (beginCycle (sample true false true true sloop)).stopSeen = true := by decide

/-- SCL high and SCL low. -/
theorem witness_OutputLatchOverACycle :
    sloop.drive.rst = false ∧ sloop.cfg.busActive sloop.cstate = true ∧ sloop.sclIn = true ∧ lastEdge.sclIn = false ∧
    lastEdge.drive.rst = false ∧ lastEdge.cfg.busActive lastEdge.cstate = true := by decide

theorem witness_ClockStretchLastsOneCycle :
    (pending .dataRead 0x2A sloop).Inv ∧ (pending .dataRead 0x2A sloop).drive.rst = false ∧
    (pending .dataRead 0x2A sloop).sclDl = true := ⟨inv_pending, by decide, by decide⟩

/-- An event arising, and an event pending. -/
theorem witness_ServiceCyclesAreQuiet :
    (lastEdge.Inv ∧ lastEdge.drive.rst = false ∧ lastEdge.ovf = false ∧ see (step lastEdge) (·.ovf) = some true) ∧
    ((pending .dataRead 0x2A sloop).Inv ∧ (pending .dataRead 0x2A sloop).ovf = true) :=
  ⟨⟨inv_lastEdge, by decide, by decide, by decide⟩, inv_pending, by decide⟩

theorem witness_SdaDriveHoldsWhileSclIsHigh :
    sloop.Inv ∧ sloop.drive.rst = false ∧ sloop.cfg.busActive sloop.cstate = true ∧ sloop.sclIn = true :=
  ⟨inv_sloop, by decide, by decide, by decide⟩

theorem witness_StalledBusHolds :
    (let s : State := sample false true false true { sloop with bbEn := true, cnt := 5 }
     s.drive.rst = false ∧ s.cfg.busActive s.cstate = true ∧ s.ovf = false ∧ s.ss = .idle ∧ s.pScl = s.sclIn ∧
       s.pSda = s.sdaIn) := by decide

/-- `DEV_ADDR`, address 0 and another address. -/
theorem witness_AddressServiceOverACycle :
    ∀ b ∈ [(0x43 : Byte), 0x00, 0x44],
      (pending .checkAddress b sloop).drive.rst = false ∧
      (pending .checkAddress b sloop).cfg.busActive (pending .checkAddress b sloop).cstate = true ∧
      (pending .checkAddress b sloop).ovf = true ∧ (pending .checkAddress b sloop).bbEn = true ∧
      (pending .checkAddress b sloop).ss = .idle ∧ (pending .checkAddress b sloop).pstate = .checkAddress := by decide

/-- Every protocol state. -/
theorem witness_DataServicesOverACycle :
    ∀ p ∈ [PState.dataRead, .dataReadAck, .dataSend, .dataSendAck, .done],
      (pending p 0x2A sloop).drive.rst = false ∧
      (pending p 0x2A sloop).cfg.busActive (pending p 0x2A sloop).cstate = true ∧
      (pending p 0x2A sloop).ovf = true ∧ (pending p 0x2A sloop).bbEn = true ∧
      (pending p 0x2A sloop).ss = .idle ∧ (pending p 0x2A sloop).pstate = p := by decide

theorem witness_SbrReadsReturnThePreState :
    (let s : State := { pending .dataReadAck 0x2A sloop with cstate := .lTarget }
     s.drive.rst = false ∧ s.cstate = .lTarget ∧
       (s.cfg.bothLimitsHalt && s.upAsserted && s.dnAsserted) = false ∧ s.ovf = true ∧ s.bbEn = true ∧
       s.pstate = .dataReadAck) := by decide

/-- `Sloop` with a script of the master's, the bus closed in homing and in the halt. -/
def scriptedClosed (l : List ScriptItem) : State := { scripted l with cfg := closedCfg }

/-- The gate stays open: by the configuration, and in the loop without both limits. -/
theorem gateStaysOpen_scripted (l : List ScriptItem) : (scripted l).gateStaysOpen 83 := ⟨fun _ => rfl, .inl rfl⟩

theorem gateStaysOpen_scriptedClosed :
    (scriptedClosed (scriptWrite 0x21 0x2A)).gateStaysOpen 83 ∧
    (scriptedClosed (scriptWrite 0x22 0x2A)).gateStaysOpen 83 ∧
    (scriptedClosed (scriptReadAck 0x21)).gateStaysOpen 83 := by
  unfold State.gateStaysOpen Calm; decide

/-- `DEV_ADDR`, also with a gate that could close, and the broadcast address. -/
theorem witness_WriteTransactionStoresTheByte :
    (∀ a ∈ [(0x21 : BusAddr), 0], (scripted (scriptWrite a 0x2A)).busIdle ∧
      (scripted (scriptWrite a 0x2A)).gateStaysOpen 83 ∧ (a = Config.p0.devAddr ∨ a = 0) ∧
      (scripted (scriptWrite a 0x2A)).drive = masterCycle false false true true ∧
      (scripted (scriptWrite a 0x2A)).script = scriptDrives false false false (scriptWrite a 0x2A)) ∧
    (scriptedClosed (scriptWrite 0x21 0x2A)).busIdle ∧
    (scriptedClosed (scriptWrite 0x21 0x2A)).gateStaysOpen 83 := by
  refine ⟨fun a h => ⟨?_, gateStaysOpen_scripted _, ?_, rfl, rfl⟩, ?_, gateStaysOpen_scriptedClosed.1⟩
  · exact ⟨rfl, rfl, rfl, rfl, rfl, rfl⟩
  · revert a; decide
  · exact ⟨rfl, rfl, rfl, rfl, rfl, rfl⟩

theorem witness_WriteToAnotherAddressIsIgnored :
    (scriptedClosed (scriptWrite 0x22 0x2A)).busIdle ∧ (scriptedClosed (scriptWrite 0x22 0x2A)).gateStaysOpen 83 ∧
    (0x22 : BusAddr) ≠ closedCfg.devAddr ∧ (0x22 : BusAddr) ≠ 0 ∧
    (scriptedClosed (scriptWrite 0x22 0x2A)).drive = masterCycle false false true true ∧
    (scriptedClosed (scriptWrite 0x22 0x2A)).script = scriptDrives false false false (scriptWrite 0x22 0x2A) :=
  ⟨⟨rfl, rfl, rfl, rfl, rfl, rfl⟩, gateStaysOpen_scriptedClosed.2.1, by decide, by decide, rfl, rfl⟩

/-- A NACK to `DEV_ADDR` and to the broadcast address, and an ACK with a gate that could close. -/
theorem witness_ReadTransactionSendsTheByte :
    (∀ a ∈ [(0x21 : BusAddr), 0], (scripted (scriptRead a)).busIdle ∧ (scripted (scriptRead a)).gateStaysOpen 83 ∧
      (a = Config.p0.devAddr ∨ a = 0) ∧ (scripted (scriptRead a)).drive = masterCycle false false true true ∧
      (scripted (scriptRead a)).script = scriptDrives false false false (if false then scriptReadAck a else scriptRead a)) ∧
    (scriptedClosed (scriptReadAck 0x21)).busIdle ∧ (scriptedClosed (scriptReadAck 0x21)).gateStaysOpen 83 ∧
    (scriptedClosed (scriptReadAck 0x21)).script =
      scriptDrives false false false (if true then scriptReadAck 0x21 else scriptRead 0x21) := by
  refine ⟨fun a h => ⟨?_, gateStaysOpen_scripted _, ?_, rfl, rfl⟩, ?_, gateStaysOpen_scriptedClosed.2.2, rfl⟩
  · exact ⟨rfl, rfl, rfl, rfl, rfl, rfl⟩
  · revert a; decide
  · exact ⟨rfl, rfl, rfl, rfl, rfl, rfl⟩

/-- Both ends of a pulse, each way. -/
theorem witness_SequencerOperations :
    ({ dir := .up, spd := .p1, n := 0 } : MoveCmd).n = 0 ∧ ({ dir := .up, spd := .p1, n := 1 } : MoveCmd).n ≠ 0 ∧
    (burst .low 0 2 3).sqMax.toNat ≤ ((burst .low 0 2 3).sqTaken + 1).toNat ∧
    (burst .low 0 1 3).wires.changedM = false ∧
    ((burst .low 0 1 3).sqTaken + 1).toNat < (burst .low 0 1 3).sqMax.toNat := by decide

/-- The end of a pulse that goes on, of the last pulse, and a cycle within a pulse. -/
theorem witness_PulseIsCheckedAtItsEnd :
    ((burst .low 0 2 4).Inv ∧ Calm (burst .low 0 2 4) 1 ∧ (burst .low 0 2 4).sqPhase ≠ .idle) ∧
    ((burst .low 0 3 4).Inv ∧ Calm (burst .low 0 3 4) 1 ∧ (burst .low 0 3 4).sqPhase ≠ .idle) ∧
    ((burst .low 1 3 4).Inv ∧ Calm (burst .low 1 3 4) 1 ∧ (burst .low 1 3 4).sqPhase ≠ .idle) := by
  refine ⟨⟨inv_pulseEnd.1, ?_, ?_⟩, ⟨inv_pulseEnd.2.1, ?_, ?_⟩, inv_pulseEnd.2.2, ?_, ?_⟩ <;>
    (try unfold Calm) <;> decide

theorem witness_PulseHasEqualPhases :
    pulse.Inv ∧ pulse.sqPhase = .high ∧ pulse.sqHp.toNat = 2 ∧ pulse.sqTimer.toNat + 1 = 2 ∧ Calm pulse (2 * 2) := by
  refine ⟨inv_pulse, ?_, ?_, ?_, ?_⟩ <;> (try unfold Calm) <;> decide

theorem witness_UndisturbedBurstTakesEveryStep :
    pulse.Inv ∧ pulse.sqPhase = .high ∧ pulse.sqHp.toNat = 2 ∧ pulse.sqTimer.toNat + 1 = 2 ∧ pulse.sqTaken = 0 ∧
    pulse.sqMax.toNat = 4 ∧ pulse.changed = false ∧ Calm pulse (2 * 2 * 4) ∧ Steady pulse (2 * 2 * 4) := by
  refine ⟨inv_pulse, ?_, ?_, ?_, ?_, ?_, ?_, ?_, ?_⟩ <;> (try unfold Calm) <;> (try unfold Steady) <;> decide

/-- A flip in the last cycle of the pulse. -/
theorem witness_FlipInsideAPulseEndsTheBurst :
    pulseFlip.Inv ∧ pulseFlip.sqPhase = .high ∧ pulseFlip.sqHp.toNat = 2 ∧ pulseFlip.sqTimer.toNat + 1 = 2 ∧
    Calm pulseFlip (2 * 2) ∧
    (∃ d ∈ pulseFlip.drives (2 * 2), d.up pulseFlip.cfg ≠ pulseFlip.limUp ∨ d.dn pulseFlip.cfg ≠ pulseFlip.limDn) := by
  refine ⟨inv_pulseFlip, ?_, ?_, ?_, ?_, ?_⟩ <;> (try unfold Calm) <;> decide

theorem witness_HomingSettleOperations :
    ({ settleState .h1Settle 0 with stimer := 1 } : State).stimer ≠ 0 ∧ (settleState .h1Settle 0).stimer = 0 := by
  decide

/-- A settle of one cycle and of three. -/
theorem witness_SettleLastsItsCycles :
    (settling (settleState .h4Settle 0).cstate = true ∧ (settleState .h4Settle 0).stimer.toNat = 0 ∧
      Calm (settleState .h4Settle 0) 1) ∧
    (let s : State := { settleState .h1Settle 0 with stimer := 2 }
     settling s.cstate = true ∧ s.stimer.toNat = 2 ∧ Calm s 3) := by
  unfold Calm; decide

/-- After homing, and in the cycle that completes it. -/
theorem witness_HomingRunsOnce :
    (sloop.drive.rst = false ∧ sloop.cstate.homing = false) ∧ (settleState .h4Settle 0).drive.rst = false := by decide

theorem witness_LoopOperations :
    0 < (({ sloop with target := 1 } : State).target - sloop.position).toInt ∧
    (sloop.target - ({ sloop with position := 1 } : State).position).toInt < 0 ∧ sloop.target = sloop.position ∧
    pulse.sqPhase ≠ .idle ∧ (burstOver .up).sqPhase = .idle ∧ (burstOver .up).lastDir = .up ∧
    (burstOver .down).sqPhase = .idle ∧ (burstOver .down).lastDir = .down := by decide

theorem witness_TargetIsTheByteTimesScale :
    (let s : State := { sloop with cstate := .lTarget, sbr := 0xFF }
     s.drive.rst = false ∧ s.cstate = .lTarget ∧
       (s.cfg.bothLimitsHalt && s.upAsserted && s.dnAsserted) = false) := by decide

/-- At the target, below it and above it. -/
theorem witness_LoopBurstGoesToTheTarget :
    (sloop.Inv ∧ Calm sloop 1 ∧ sloop.cstate = .lCompute) ∧
    (let s : State := { sloop with target := 168 }
     s.Inv ∧ Calm s 1 ∧ s.cstate = .lCompute ∧ s.position.toInt < s.target.toInt) ∧
    (let s : State := { sloop with position := 1020 }
     s.Inv ∧ Calm s 1 ∧ s.cstate = .lCompute ∧ s.target.toInt < s.position.toInt) := by
  refine ⟨⟨inv_sloop, ?_, ?_⟩, ⟨inv_targets.1, ?_, ?_, ?_⟩, inv_targets.2, ?_, ?_, ?_⟩ <;>
    (try unfold Calm) <;> decide

theorem witness_PositionAdvancesByStepsTaken :
    ((burstOver .up).Inv ∧ Calm (burstOver .up) 1 ∧ (burstOver .up).cstate = .lMove ∧
      (burstOver .up).sqPhase = .idle) ∧
    ((burstOver .down).Inv ∧ Calm (burstOver .down) 1 ∧ (burstOver .down).cstate = .lMove ∧
      (burstOver .down).sqPhase = .idle) := by
  refine ⟨⟨inv_burstOver.1, ?_, ?_, ?_⟩, inv_burstOver.2, ?_, ?_, ?_⟩ <;> (try unfold Calm) <;> decide

/-- With nothing pending, and with an event pending that is no DATA_READ_ACK. -/
theorem witness_LoopIsIdempotentAtTheTarget :
    (sloop.Inv ∧ Calm sloop 2 ∧ sloop.cstate = .lCompute ∧ sloop.target = sloop.position ∧
      sloop.target = sloop.sbr.setWidth 32 * sloop.cfg.scale ∧ sloop.ovf = false) ∧
    (let s : State := pending .dataRead 0x2A sloop
     s.Inv ∧ Calm s 2 ∧ s.cstate = .lCompute ∧ s.target = s.position ∧
       s.target = s.sbr.setWidth 32 * s.cfg.scale ∧ s.ovf = true ∧ s.pstate ≠ .dataReadAck) := by
  refine ⟨⟨inv_sloop, ?_, ?_, ?_, ?_, ?_⟩, inv_pending, ?_, ?_, ?_, ?_, ?_, ?_⟩ <;> (try unfold Calm) <;> decide

theorem witness_BurstIsNotPreempted : Calm pulse 1 ∧ pulse.cstate = .lMove ∧ pulse.sqPhase ≠ .idle := by
  unfold Calm; decide

/-- Each register is written somewhere. -/
theorem witness_MotionRegistersHaveTheirWriters :
    (burstOver .up).drive.rst = false ∧ see (step (burstOver .up)) (·.position != (burstOver .up).position) = some true ∧
    see (step { sloop with cstate := .lTarget, sbr := 1 }) (fun t => (t.target, t.hb)) = some (4, true) ∧
    see (step { State.reset with cstate := .h2Move, sqTaken := 37, sqMax := 100 }) (fun t => (t.hacc, t.stimer)) =
      some (37, 2) := by decide

/-- Each of the seven conditions. -/
theorem witness_HaltIsEnteredExactlyOnItsConditions :
    ∀ p ∈ [(settleState .h1Settle 10, HaltCause.upBudget), (pins true false (settleState .h1Settle 9), .upStuck),
        (settleState .h2Settle 100, .seekBudget), (settleState .h2Settle 99, .downMissing),
        (settleState .h3Settle 20, .backoffBudget), (pins false true (settleState .h3Settle 19), .downStuck),
        (pins true true sloop, .bothLimits)],
      p.1.drive.rst = false ∧ p.1.cstate ≠ .halt ∧ see (step p.1) (·.haltCause) = some (some p.2) := by decide

theorem witness_HaltEntryOverACycle :
    (pins true true pulse).drive.rst = false ∧ (pins true true pulse).cstate ≠ .halt ∧
    see (step (pins true true pulse)) (·.cstate) = some .halt := by decide

/-- A halted machine whose switches flip. -/
theorem witness_HaltIsAbsorbing :
    (let s : State := { sloop with cstate := .halt, script := [masterCycle true true false true] }
     s.cstate = .halt ∧ s.sqPhase = .idle ∧ NoReset s 5) := by
  unfold NoReset; decide

theorem witness_EveryStepKeepsTheInvariant : sloop.Inv ∧ pulse.Inv ∧ (pending .dataRead 0x2A sloop).Inv :=
  ⟨inv_sloop, inv_pulse, inv_pending⟩

/-- Two states that differ in the bus engine and the lines alone. -/
theorem witness_MotionSeesTheBusOnlyThroughSbr :
    (let s : State := pending .dataSend 0x2A sloop
     sloop ≠ s ∧ sloop.cfg = s.cfg ∧ sloop.motion = s.motion ∧ sloop.sbr = s.sbr ∧ sloop.drive.rst = s.drive.rst ∧
       sloop.drive.limUpPin = s.drive.limUpPin ∧ sloop.drive.limDnPin = s.drive.limDnPin) := by decide

/-- Two states that differ in the motion half and the pins alone. -/
theorem witness_BusSeesOnlyTheGate :
    (let s : State := pins true false { sloop with cstate := .h3Move, position := 9, sqPhase := .low }
     sloop ≠ s ∧ sloop.cfg = s.cfg ∧ sloop.bus = s.bus ∧ sloop.drive.rst = s.drive.rst ∧
       sloop.drive.scl = s.drive.scl ∧ sloop.drive.sda = s.drive.sda ∧
       sloop.cfg.busActive sloop.cstate = sloop.cfg.busActive s.cstate) := by decide

end Sys2Proof.Tests
end

section
/-! What the decoder answers on the words the block forms (spec/30_encoding.md R80 to R91): one lemma per slot. -/

namespace Sys2Proof

/-! ### The bits of the selector words -/

@[simp] theorem CState.ofCode_code (c : CState) : CState.ofCode c.code = c := by cases c <;> rfl

theorem lineBits_bits (pScl pSda scl sda : Bool) :
    (lineBits pScl pSda scl sda).getLsbD 3 = pScl ∧ (lineBits pScl pSda scl sda).getLsbD 2 = pSda ∧
    (lineBits pScl pSda scl sda).getLsbD 1 = scl ∧ (lineBits pScl pSda scl sda).getLsbD 0 = sda := by
  decide +revert

theorem ssCtxBits_bits (ss : SsState) (pScl pSda scl sda : Bool) :
    (ssCtxBits ss (lineBits pScl pSda scl sda)).getLsbD 4 = (ss == .settle) ∧
    (ssCtxBits ss (lineBits pScl pSda scl sda)).getLsbD 3 = pScl ∧
    (ssCtxBits ss (lineBits pScl pSda scl sda)).getLsbD 2 = pSda ∧
    (ssCtxBits ss (lineBits pScl pSda scl sda)).getLsbD 1 = scl ∧
    (ssCtxBits ss (lineBits pScl pSda scl sda)).getLsbD 0 = sda := by
  cases ss <;> decide +revert

theorem limitPairBits_bits (upN dnN : Bool) :
    (limitPairBits upN dnN).getLsbD 1 = upN ∧ (limitPairBits upN dnN).getLsbD 0 = dnN := by
  decide +revert

/-- The fields of MOVE_CMD stand where R89 puts them. -/
theorem MoveCmd.bits_fields (m : MoveCmd) :
    m.bits.getLsbD 35 = m.dir.code.getLsbD 0 ∧ m.bits.extractLsb' 32 3 = m.spd.code ∧ m.bits.setWidth 32 = m.n := by
  refine ⟨?_, ?_, BitVec.setWidth_append_eq_right⟩
  · simp only [MoveCmd.bits, BitVec.getLsbD_append]
    simp
  · refine BitVec.eq_of_getLsbD_eq fun i hi => ?_
    simp only [MoveCmd.bits, BitVec.getLsbD_append, BitVec.getLsbD_extractLsb']
    simp [hi]

theorem decodeMove_bits (m : MoveCmd) : decodeMove m.bits = .ok m := by
  obtain ⟨hdir, hspd, hn⟩ := m.bits_fields
  have hd : Dir.ofCode (m.dir.code.getLsbD 0) = m.dir := by cases m.dir <;> rfl
  have hs : Speed.ofCode m.spd.code = some m.spd := by cases m.spd <;> rfl
  simp only [decodeMove, hdir, hspd, hn, hd, hs]

/-- The fields of the word of SEQ_START stand where log 11 puts them. -/
theorem seqStartBits_fields (tz : Bool) (m : MoveCmd) :
    (seqStartBits tz m).getLsbD 0 = tz ∧ (seqStartBits tz m).extractLsb' 1 7 = 0 ∧
      (seqStartBits tz m).extractLsb' 8 36 = m.bits := by
  refine ⟨?_, BitVec.eq_of_getLsbD_eq fun i hi => ?_, BitVec.eq_of_getLsbD_eq fun i hi => ?_⟩
  · have : (sqCtxBits .idle tz).getLsbD 0 = tz := by decide +revert
    simp only [seqStartBits, BitVec.getLsbD_append, BitVec.getLsbD_setWidth, this]
    simp
  · have : ∀ i < 7, (sqCtxBits .idle tz).getLsbD (1 + i) = false := by decide +revert
    simp only [seqStartBits, BitVec.getLsbD_append, BitVec.getLsbD_extractLsb', BitVec.getLsbD_setWidth, this i hi]
    simp
    omega
  · simp only [seqStartBits, BitVec.getLsbD_append, BitVec.getLsbD_extractLsb', BitVec.getLsbD_setWidth]
    simp [hi]
    omega

/-! ### Words in their slots -/

/-- A selector that fits its slot is read by the slot's decoder. -/
theorem decode_opWord (c : Config) {n : Nat} {slot : Slot} (w : BitVec n) (hs : slot ≠ .moveIssued)
    (hn : n ≤ slot.wordWidth) : decode c (opWord slot w) = decodeSelector c slot (w.setWidth 8) := by
  have hfit := Nat.not_le.mpr (Laws.EncodeFits.opWord_fits slot w hn)
  have hbits : (opWord slot w).bits.setWidth 8 = w.setWidth 8 := BitVec.setWidth_setWidth_of_le w (by decide)
  cases slot with
  | moveIssued => exact absurd rfl hs
  | _ => simp only [decode, if_neg hfit, hbits]; rfl

/-- A selector of at most eight bits is read back from its byte. -/
theorem selector_of_byte {n : Nat} (w : BitVec n) (h : n ≤ 8) :
    (w.setWidth 8).setWidth n = w := by
  rw [BitVec.setWidth_setWidth_of_le w h, BitVec.setWidth_eq]

theorem decode_reset (c : Config) : decode c (opWord .rst (1 : BitVec 1)) = .ok .reset := by
  rw [decode_opWord c _ (by decide) (by decide)]; rfl

theorem decode_monitor (c : Config) (upN dnN : Bool) :
    decode c (opWord .monitor (limitPairBits upN dnN)) = .ok (.limitSample upN dnN) := by
  rw [decode_opWord c _ (by decide) (by decide)]
  cases upN <;> cases dnN <;> rfl

theorem decode_gate (c : Config) (cs : CState) : decode c (opWord .gate cs.code) = .ok (.busGate cs) := by
  rw [decode_opWord c _ (by decide) (by decide)]
  simp [decodeSelector]

theorem decode_gated (c : Config) (cs : CState) (h : c.busActive cs = false) :
    decode c (opWord .gated cs.code) = .ok (.busGated cs) := by
  rw [decode_opWord c _ (by decide) (by decide)]
  simp [decodeSelector, h]
/-- The SCL event of a line sample that is no start and no stop (R84). -/
def lineInstr (pScl pSda scl sda : Bool) : Instr :=
  if scl then (if pScl then .sclHigh sda else .sclRise pSda sda)
  else if pScl then .sclFall pSda sda else .sclLow pSda sda

theorem decode_line (c : Config) (pScl pSda scl sda : Bool) (h : (pScl && scl && pSda != sda) = false) :
    decode c (opWord .line (lineBits pScl pSda scl sda)) = .ok (lineInstr pScl pSda scl sda) := by
  obtain ⟨h3, h2, h1, h0⟩ := lineBits_bits pScl pSda scl sda
  have hw := selector_of_byte (lineBits pScl pSda scl sda) (by decide)
  rw [decode_opWord c _ (by decide) (by decide)]
  simp only [decodeSelector, hw, decodeLine, h3, h2, h1, h0]
  cases pScl <;> cases scl <;> simp_all [lineInstr]

/-- The start/stop unit's action where it has one, START and STOP first (R85). -/
def startStopInstr (ss : SsState) (pScl pSda scl sda : Bool) : Instr :=
  if pScl && scl && pSda && !sda then .startDetect ss
  else if pScl && scl && !pSda && sda then .stopDetect ss
  else if scl then .settleWait pScl pSda sda
  else .startCommit pScl pSda sda

theorem decode_startStop (c : Config) (ss : SsState) (pScl pSda scl sda : Bool)
    (h : (pScl && scl && pSda != sda || ss == .settle) = true) :
    decode c (opWord .startStop (ssCtxBits ss (lineBits pScl pSda scl sda))) =
      .ok (startStopInstr ss pScl pSda scl sda) := by
  obtain ⟨h4, h3, h2, h1, h0⟩ := ssCtxBits_bits ss pScl pSda scl sda
  have hw := selector_of_byte (ssCtxBits ss (lineBits pScl pSda scl sda)) (by decide)
  have hss : SsState.ofCode (ss == .settle) = ss := by cases ss <;> rfl
  rw [decode_opWord c _ (by decide) (by decide)]
  simp only [decodeSelector, hw, decodeStartStop, h4, h3, h2, h1, h0, hss]
  cases pScl <;> cases pSda <;> cases scl <;> cases sda <;> simp_all [startStopInstr]

/-- The case of CHECK_ADDRESS an address byte selects (R83). -/
def addressInstr (c : Config) (w : Byte) : Instr :=
  if w.extractLsb' 1 7 == c.devAddr then
    (if w.getLsbD 0 then .caMatchR (w.extractLsb' 1 7) else .caMatchW (w.extractLsb' 1 7))
  else if w.extractLsb' 1 7 == 0 then (if w.getLsbD 0 then .caBcastR else .caBcastW)
  else .caNomatch (w.extractLsb' 1 7) (w.getLsbD 0)

theorem decode_address (c : Config) (w : Byte) : decode c (opWord .address w) = .ok (addressInstr c w) := by
  rw [decode_opWord c _ (by decide) (by decide)]
  simp only [decodeSelector, BitVec.setWidth_eq, decodeAddress, addressInstr]
  split
  · rfl
  · split <;> rfl

/-- The service of a protocol state, CHECK_ADDRESS on the byte received (R86, R91). -/
def serviceInstr (c : Config) (w : Byte) : PState → Instr
  | .checkAddress => addressInstr c w
  | .dataRead => .dataRead
  | .dataReadAck => .dataReadAck
  | .dataSend => .dataSend
  | .dataSendAck => .dataSendAck
  | .done => .done

theorem decode_service (c : Config) (w : Byte) {p : PState} (h : p ≠ .checkAddress) :
    decode c (opWord .service p.code) = .ok (serviceInstr c w p) := by
  rw [decode_opWord c _ (by decide) (by decide)]
  cases p with
  | checkAddress => exact absurd rfl h
  | _ => rfl

theorem decode_bothLimits (c : Config) : decode c (opWord .bothLimits (limitPairBits true true)) = .ok .bothLimits := by
  rw [decode_opWord c _ (by decide) (by decide)]; rfl

theorem decode_controller (c : Config) (cs : CState) : decode c (opWord .controller cs.code) = .ok cs.instr := by
  rw [decode_opWord c _ (by decide) (by decide)]
  simp [decodeSelector]

/-- The sequencer's operation with no move to accept (R91). -/
def sequencerInstr (tz : Bool) : SqPhase → Instr
  | .idle => .seqIdle tz
  | .high => if tz then .seqHighEnd else .seqHighCount
  | .low => if tz then .seqPulseEnd else .seqLowCount

theorem decode_sequencer (c : Config) (ph : SqPhase) (tz : Bool) :
    decode c (opWord .sequencer (sqCtxBits ph tz)) = .ok (sequencerInstr tz ph) := by
  rw [decode_opWord c _ (by decide) (by decide)]
  cases ph <;> cases tz <;> rfl

theorem decode_moveIssued (c : Config) (tz : Bool) (m : MoveCmd) :
    decode c { slot := .moveIssued, bits := seqStartBits tz m } = .ok (.seqStart tz m) := by
  obtain ⟨htz, hsel, hmove⟩ := seqStartBits_fields tz m
  have hfit : ¬ 2 ^ Slot.moveIssued.wordWidth ≤ (seqStartBits tz m).toNat :=
    Nat.not_le.mpr (Laws.EncodeFits.seqStart tz m)
  simp only [decode, if_neg hfit, htz, hsel, hmove, decodeMove_bits]
  rfl

end Sys2Proof
end

section
/-! The operations a cycle selects, read from the words of Machine/Select.lean: each word decodes, and running the
words is executing the operations. -/

namespace Sys2Proof.Machine

/-! ### The selected operations -/

/-- The word selects the operation under the configuration. -/
def Decodes (c : Config) (o : OpWord) (i : Instr) : Prop := decode c o = .ok i

/-- The framing unit's operation. -/
def lineOps (s : State) : List Instr :=
  if s.startSeen || s.stopSeen then [] else [lineInstr s.pScl s.pSda s.wires.scl s.wires.sda]

/-- The service of a pending event. -/
def serviceOps (s : State) : List Instr :=
  if s.serviceDue then [serviceInstr s.cfg s.shreg s.pstate] else []

/-- The start/stop unit's operation. -/
def startStopOps (s : State) : List Instr :=
  if s.startSeen || s.stopSeen || s.ss == .settle then
    [startStopInstr s.ss s.pScl s.pSda s.wires.scl s.wires.sda]
  else []

/-- The bus engine's operations. -/
def busOps (s : State) : List Instr :=
  if s.cfg.busActive s.cstate then lineOps s ++ serviceOps s ++ startStopOps s else [.busGated s.cstate]

/-- The controller's operation. -/
def controllerOp (s : State) : Instr :=
  if s.bothLimitsFire s.upAsserted s.dnAsserted then .bothLimits else s.cstate.instr

/-- Everything a cycle with pre-state `s` executes but the sequencer's operation. -/
def selectedOps (s : State) : List Instr :=
  .limitSample s.upAsserted s.dnAsserted :: .busGate s.cstate :: (busOps s ++ [controllerOp s])

/-- The sequencer's operation, where it has one, once the controller has left `c`. -/
def sequencerOps (s c : State) : List Instr :=
  if c.cstate == .halt && s.cstate != .halt then []
  else
    match c.wires.move with
    | some m => if s.sqIdle then [.seqStart (s.sqTimer == 0) m] else [sequencerInstr (s.sqTimer == 0) s.sqPhase]
    | none => [sequencerInstr (s.sqTimer == 0) s.sqPhase]

/-! ### Every selected word decodes to its operation -/

theorem startSeen_or_stopSeen (s : State) :
    (s.startSeen || s.stopSeen) = (s.pScl && s.wires.scl && s.pSda != s.wires.sda) := by
  simp only [State.startSeen, State.stopSeen]
  cases s.pScl <;> cases s.wires.scl <;> cases s.pSda <;> cases s.wires.sda <;> rfl

theorem lineSelection_decodes (s : State) : List.Forall₂ (Decodes s.cfg) (lineSelection s) (lineOps s) := by
  unfold lineSelection lineOps
  split
  · exact .nil
  next h =>
    rw [startSeen_or_stopSeen, Bool.not_eq_true] at h
    exact .cons (decode_line _ _ _ _ _ h) .nil

theorem serviceSelection_decodes (s : State) :
    List.Forall₂ (Decodes s.cfg) (serviceSelection s) (serviceOps s) := by
  unfold serviceSelection serviceOps
  split
  · by_cases hp : s.pstate = .checkAddress
    · simp only [hp, beq_self_eq_true, if_true]
      exact .cons (decode_address _ _) .nil
    · rw [if_neg (by simpa using hp)]
      exact .cons (decode_service _ _ hp) .nil
  · exact .nil

theorem startStopSelection_decodes (s : State) :
    List.Forall₂ (Decodes s.cfg) (startStopSelection s) (startStopOps s) := by
  unfold startStopSelection startStopOps
  split
  next h =>
    rw [startSeen_or_stopSeen] at h
    exact .cons (decode_startStop _ _ _ _ _ _ h) .nil
  · exact .nil

theorem busSelection_decodes (s : State) : List.Forall₂ (Decodes s.cfg) (busSelection s) (busOps s) := by
  unfold busSelection busOps
  split
  · exact List.rel_append (List.rel_append (lineSelection_decodes s) (serviceSelection_decodes s))
      (startStopSelection_decodes s)
  next h => exact .cons (decode_gated _ _ (by simpa using h)) .nil

theorem controllerSelection_decodes (s : State) : Decodes s.cfg (controllerSelection s) (controllerOp s) := by
  unfold controllerSelection controllerOp
  split
  next h =>
    obtain ⟨⟨-, hup⟩, hdn⟩ : (_ ∧ s.upAsserted = true) ∧ s.dnAsserted = true := by
      simpa only [State.bothLimitsFire, Bool.and_eq_true] using h
    simp only [State.limitPair, hup, hdn]
    exact decode_bothLimits _
  · exact decode_controller _ _

theorem selections_decode (s : State) : List.Forall₂ (Decodes s.cfg) (selections s) (selectedOps s) :=
  .cons (decode_monitor _ _ _) (.cons (decode_gate _ _)
    (List.rel_append (busSelection_decodes s) (.cons (controllerSelection_decodes s) .nil)))

theorem sequencerSelection_decodes (s c : State) :
    List.Forall₂ (Decodes s.cfg) (sequencerSelection s c) (sequencerOps s c) := by
  have hphase : List.Forall₂ (Decodes s.cfg) [opWord .sequencer s.sqCtx]
      [sequencerInstr (s.sqTimer == 0) s.sqPhase] := .cons (decode_sequencer _ _ _) .nil
  unfold sequencerSelection sequencerOps
  split
  · exact .nil
  · cases c.wires.move with
    | none => exact hphase
    | some m =>
      dsimp only
      split
      · exact .cons (decode_moveIssued _ _ _) .nil
      · exact hphase

/-! ### Every operation answers a next state and keeps the configuration -/

@[simp] theorem countEdge_cfg (s : State) : (countEdge s).cfg = s.cfg := by unfold countEdge; split <;> rfl

@[simp] theorem acceptMove_cfg (m : MoveCmd) (s : State) : (acceptMove m s).cfg = s.cfg := by
  unfold acceptMove; split <;> rfl

@[simp] theorem endPulse_cfg (s : State) : (endPulse s).cfg = s.cfg := by
  obtain ⟨-, h⟩ | ⟨-, -, h⟩ := endPulse_cases s <;> rw [h] <;> rfl

@[simp] theorem verifyPhase_cfg (b : Word32) (k : HaltCause) (wrong : Bool) (j : HaltCause) (n : CState) (s : State) :
    (verifyPhase b k wrong j n s).cfg = s.cfg := by
  unfold verifyPhase; split
  · rfl
  · split <;> rfl

@[simp] theorem awaitBurst_cfg (n : CState) (s : State) : (awaitBurst n s).cfg = s.cfg := by
  unfold awaitBurst; split <;> rfl

theorem settle_cfg {f : State → State} {s : State} (h : (f s).cfg = s.cfg) : (settle f s).cfg = s.cfg := by
  unfold settle; split
  · exact h
  · rfl

/-- The result is a next state with the configuration of `s`. -/
def KeepsCfg (s : State) (r : Result) : Prop := ∃ t, r = .next t ∧ t.cfg = s.cfg

theorem keepsCfg_next {s t : State} (h : t.cfg = s.cfg) : KeepsCfg s (.next t) := ⟨t, rfl, h⟩

theorem keepsCfg_ite {s : State} {b : Prop} [Decidable b] {r r' : Result} (h : KeepsCfg s r) (h' : KeepsCfg s r') :
    KeepsCfg s (if b then r else r') := by split <;> assumption

theorem exec_keepsCfg (i : Instr) (s : State) : KeepsCfg s (exec i s) := by
  cases i with
  | sclRise _ _ | sclFall _ _ => exact keepsCfg_ite (keepsCfg_next (countEdge_cfg _)) (keepsCfg_next rfl)
  | count _ _ _ => exact keepsCfg_next (countEdge_cfg s)
  | seqStart _ m => exact keepsCfg_next (acceptMove_cfg m s)
  | seqPulseEnd => exact keepsCfg_next (endPulse_cfg s)
  | h1Settle | h2Settle | h3Settle => exact keepsCfg_next (settle_cfg (verifyPhase_cfg _ _ _ _ _ s))
  | h4Settle => exact keepsCfg_next (settle_cfg rfl)
  | h2Move | h3Move => exact keepsCfg_next (awaitBurst_cfg _ s)
  | h1Check | h1Move | h2Start | h4Move | bothLimits => exact keepsCfg_ite (keepsCfg_next rfl) (keepsCfg_next rfl)
  | lCompute =>
    exact keepsCfg_ite (keepsCfg_next rfl) (keepsCfg_ite (keepsCfg_next rfl) (keepsCfg_next rfl))
  | lMove =>
    refine keepsCfg_ite ?_ (keepsCfg_next rfl)
    cases s.lastDir <;> exact keepsCfg_next rfl
  | _ => exact keepsCfg_next rfl

/-! ### Running words is executing operations -/

theorem runWords_eq_execAll {c : Config} {os : List OpWord} {is : List Instr} (s : State)
    (h : List.Forall₂ (Decodes c) os is) (hs : s.cfg = c) : runWords os s = execAll is s := by
  induction h generalizing s with
  | nil => rfl
  | @cons o i os is ho hos ih =>
    obtain ⟨t, ht, hcfg⟩ := exec_keepsCfg i s
    rw [runWords_cons, runWord_of_decode (hs ▸ ho), execAll, ht, andThen_next, andThen_next, ih t (hcfg.trans hs)]

@[simp] theorem execAll_singleton (i : Instr) (s : State) : execAll [i] s = exec i s := by
  obtain ⟨t, ht, -⟩ := exec_keepsCfg i s
  simp [execAll, ht]

theorem execAll_append (is js : List Instr) (s : State) :
    execAll (is ++ js) s = Result.andThen (execAll is s) (execAll js) := by
  induction is generalizing s with
  | nil => rfl
  | cons i is ih =>
    obtain ⟨t, ht, -⟩ := exec_keepsCfg i s
    simp only [List.cons_append, execAll, ht, andThen_next, ih]

end Sys2Proof.Machine
end

section
/-! The cycle up to the bus engine (spec/10_state.md R22): the state each unit leaves, with the values the reference
gives the unit's registers as functions of the pre-state. -/

namespace Sys2Proof.Machine

/-! ### Monitor and gate -/

/-- The state after the monitor and the gate. -/
def sampled (s : State) : State :=
  { beginCycle s with
    limUp := s.upAsserted, limDn := s.dnAsserted, changed := Reference.changedM s
    wires := { (beginCycle s).wires with
      upN := s.upAsserted, dnN := s.dnAsserted, setC := Reference.setC s, changedM := Reference.changedM s
      busActive := Reference.active s } }

theorem execAll_monitor_gate (s : State) :
    execAll [.limitSample s.upAsserted s.dnAsserted, .busGate s.cstate] (beginCycle s) = .next (sampled s) := rfl

/-! ### The framing unit -/

/-- The shift of R117 and the reference's are the same. -/
theorem shiftIn_eq (x : Byte) (b : Bool) :
    x.extractLsb' 0 7 ++ BitVec.ofBool b = (x <<< 1) ||| (BitVec.ofBool b).setWidth 8 := by
  refine BitVec.eq_of_getLsbD_eq fun i hi => ?_
  rw [BitVec.getLsbD_append]
  cases i with
  | zero => simp
  | succ n =>
    have hn : n < 7 := by omega
    simp [hn, hi, -BitVec.getLsbD_eq_getElem]

theorem countEdge_eq (s : State) :
    countEdge s = { s with cnt := s.cnt + 1, ovf := if s.cnt == 15 then true else s.ovf } := by
  obtain ⟨h, e⟩ | ⟨h, e⟩ := countEdge_cases s
  · rw [e, h]; rfl
  · rw [e, if_neg (by simpa using h)]

theorem exec_sclRise_eq (pSda sda : Bool) (m : State) :
    exec (.sclRise pSda sda) m = .next { m with
      shreg := if m.counting then (m.shreg <<< 1) ||| (BitVec.ofBool sda).setWidth 8 else m.shreg
      cnt := if m.counting then m.cnt + 1 else m.cnt
      ovf := if m.counting && m.cnt == 15 then true else m.ovf } := by
  simp only [exec, execSclRise, countEdge_eq, shiftIn_eq]
  cases m.counting <;> rfl

theorem exec_sclFall_eq (pSda sda : Bool) (m : State) :
    exec (.sclFall pSda sda) m = .next { m with
      cnt := if m.counting then m.cnt + 1 else m.cnt
      ovf := if m.counting && m.cnt == 15 then true else m.ovf } := by
  simp only [exec, execSclFall, countEdge_eq]
  cases m.counting <;> rfl

/-- The state after the framing unit. -/
def framed (s : State) : State :=
  { sampled s with
    cnt := if Reference.edge s then s.cnt + 1 else s.cnt
    ovf := if Reference.edge s && s.cnt == 15 then true else s.ovf
    shreg :=
      if Reference.rise s && Reference.edge s then (s.shreg <<< 1) ||| (BitVec.ofBool s.sdaIn).setWidth 8
      else s.shreg }

theorem framed_of_not_edge {s : State} (h : Reference.edge s = false) : framed s = sampled s := by
  simp only [framed, h, Bool.and_false]
  rfl

theorem execAll_lineOps (s : State) : execAll (lineOps (beginCycle s)) (sampled s) = .next (framed s) := by
  have hcount : (sampled s).counting = (s.bbEn && !s.ovf) := rfl
  have hops : lineOps (beginCycle s) =
      if Reference.start s || Reference.stop s then [] else [lineInstr s.pScl s.pSda s.sclIn s.sdaIn] := rfl
  cases hp : s.pScl <;> cases hc : s.sclIn
  case false.true =>
    have hrise : Reference.rise s = true := by simp [Reference.rise, hp, hc]
    have hedge : Reference.edge s = (sampled s).counting := by simp [Reference.edge, hrise, hcount]
    have hrun : lineOps (beginCycle s) = [.sclRise s.pSda s.sdaIn] := by
      simp [hops, Reference.start, Reference.stop, lineInstr, hp, hc]
    rw [hrun, framed, hrise, hedge]
    exact (execAll_singleton _ _).trans (exec_sclRise_eq s.pSda s.sdaIn (sampled s))
  case true.false =>
    have hrise : Reference.rise s = false := by simp [Reference.rise, hp]
    have hfall : Reference.fall s = true := by simp [Reference.fall, hp, hc]
    have hedge : Reference.edge s = (sampled s).counting := by simp [Reference.edge, hfall, hcount]
    have hrun : lineOps (beginCycle s) = [.sclFall s.pSda s.sdaIn] := by
      simp [hops, Reference.start, Reference.stop, lineInstr, hp, hc]
    rw [hrun, framed, hrise, hedge]
    exact (execAll_singleton _ _).trans (exec_sclFall_eq s.pSda s.sdaIn (sampled s))
  all_goals
    have hedge : Reference.edge s = false := by simp [Reference.edge, Reference.rise, Reference.fall, hp, hc]
    rw [framed_of_not_edge hedge, hops]
    split
    · rfl
    · simp only [lineInstr, hp, hc]
      rfl

/-! ### The start/stop unit -/

/-- What the start/stop unit does to the state `m` that framing and service left, in a cycle with pre-state `s`. -/
def started (s m : State) : State :=
  { m with
    ss := if Reference.start s then .settle else if Reference.stop s || Reference.commit s then .idle else m.ss
    pstate := if Reference.start s then .checkAddress else m.pstate
    bbEn := if Reference.start s || Reference.stop s then false else if Reference.commit s then true else m.bbEn
    ovf := if Reference.start s || Reference.stop s || Reference.commit s then false else m.ovf
    cnt := if Reference.commit s then 0 else m.cnt
    oe := if Reference.start s || Reference.stop s then false else m.oe }

theorem execAll_startStopOps (s m : State) : execAll (startStopOps (beginCycle s)) m = .next (started s m) := by
  have hops : startStopOps (beginCycle s) =
      if Reference.start s || Reference.stop s || s.ss == .settle then
        [if Reference.start s then .startDetect s.ss
          else if Reference.stop s then .stopDetect s.ss
          else if s.sclIn then .settleWait s.pScl s.pSda s.sdaIn
          else .startCommit s.pScl s.pSda s.sdaIn]
      else [] := rfl
  rw [hops]
  unfold started Reference.commit
  cases Reference.start s
  case true => simp [exec, execStartDetect]
  case false =>
    cases Reference.stop s
    case true => simp [exec, execStopDetect]
    case false =>
      cases s.ss
      case idle => simp [execAll]
      case settle => cases s.sclIn <;> simp [exec, execStartCommit, execSettleWait]

/-! ### The bus engine -/

/-- The state after the bus engine: its registers hold what the reference says, but for the output latch and the
sample registers, which an open gate leaves to the end of the cycle. -/
def bused (s : State) : State :=
  { sampled s with
    ss := Reference.ss s, pstate := Reference.pstate s, bbEn := Reference.bbEn s, ovf := Reference.ovf s
    cnt := Reference.cnt s, shreg := Reference.shreg s, oe := Reference.oe s, sbr := Reference.sbr s
    dout := if Reference.active s then s.dout else true
    pScl := if Reference.active s then s.pScl else s.sclIn
    pSda := if Reference.active s then s.pSda else s.sdaIn }

/-- With no event pending only framing and the start/stop unit act. -/
theorem started_framed {s : State} (ha : Reference.active s = true) (hv : Reference.service s = false) :
    started s (framed s) = bused s := by
  simp [started, framed, bused, sampled, Reference.ss, Reference.pstate, Reference.bbEn, Reference.ovf,
    Reference.cnt, Reference.shreg, Reference.oe, Reference.sbr, ha, hv]

/-- A pending event stops the counting of edges (R125). -/
theorem not_edge_of_service {s : State} (hv : Reference.service s = true) : Reference.edge s = false := by
  simp only [Reference.service, Bool.and_eq_true] at hv
  simp [Reference.edge, hv.1]

theorem exec_addressInstr (s m : State) :
    exec (addressInstr s.cfg s.shreg) m = .next
      (if Reference.addressed s then driveAck (if s.shreg.getLsbD 0 then .dataSend else .dataRead) m
      else { m with bbEn := false, oe := false, ovf := false, pstate := .checkAddress }) := by
  unfold addressInstr Reference.addressed
  cases s.shreg.extractLsb' 1 7 == s.cfg.devAddr <;> cases s.shreg.extractLsb' 1 7 == 0 <;>
    cases s.shreg.getLsbD 0 <;> rfl

theorem execAll_service_startStop {s : State} (ha : Reference.active s = true) (hv : Reference.service s = true) :
    execAll (serviceOps (beginCycle s) ++ startStopOps (beginCycle s)) (sampled s) = .next (bused s) := by
  have hops : serviceOps (beginCycle s) = [serviceInstr s.cfg s.shreg s.pstate] := if_pos hv
  rw [execAll_append, hops, execAll_singleton]
  cases hp : s.pstate
  case checkAddress =>
    rw [serviceInstr, exec_addressInstr, andThen_next, execAll_startStopOps]
    cases hr : Reference.addressed s <;>
      simp [started, bused, sampled, driveAck, Reference.ss, Reference.pstate, Reference.afterService,
        Reference.bbEn, Reference.ovf, Reference.cnt, Reference.shreg, Reference.oe, Reference.sbr, ha, hv, hp, hr]
  all_goals
    simp [serviceInstr, exec, execDataRead, execDataReadAck, execDataSend, execDataSendAck, execDone,
      execAll_startStopOps, started, bused, sampled, driveAck, Reference.ss, Reference.pstate, Reference.afterService,
      Reference.bbEn, Reference.ovf, Reference.cnt, Reference.shreg, Reference.oe, Reference.sbr, ha, hv, hp]

theorem execAll_busOps (s : State) : execAll (busOps (beginCycle s)) (sampled s) = .next (bused s) := by
  have hops : busOps (beginCycle s) = if Reference.active s then
      lineOps (beginCycle s) ++ serviceOps (beginCycle s) ++ startStopOps (beginCycle s)
    else [.busGated s.cstate] := rfl
  rw [hops]
  cases ha : Reference.active s
  case false =>
    simp [exec, execBusGated, resetBusEngine, sampleLines, bused, sampled, Reference.ss, Reference.pstate,
      Reference.bbEn, Reference.ovf, Reference.cnt, Reference.shreg, Reference.oe, Reference.sbr, ha]
  case true =>
    simp only [if_true, List.append_assoc]
    rw [execAll_append, execAll_lineOps, andThen_next]
    cases hv : Reference.service s
    case true => rw [framed_of_not_edge (not_edge_of_service hv), execAll_service_startStop ha hv]
    case false =>
      have hnone : serviceOps (beginCycle s) = [] := if_neg (by simpa [Reference.service, State.serviceDue] using hv)
      rw [hnone, List.nil_append, execAll_startStopOps, started_framed ha hv]

end Sys2Proof.Machine
end

section
/-! The controller's part of the cycle: entering the halt (spec/60_exceptions.md R222, R223) or the state's own step
(spec/44_homing.md, spec/45_position_loop.md). -/

namespace Sys2Proof.Machine

/-! ### What the bus engine leaves to the controller -/

@[simp] theorem bused_cfg (s : State) : (bused s).cfg = s.cfg := rfl

@[simp] theorem bused_cstate (s : State) : (bused s).cstate = s.cstate := rfl

@[simp] theorem bused_hacc (s : State) : (bused s).hacc = s.hacc := rfl

@[simp] theorem bused_stimer (s : State) : (bused s).stimer = s.stimer := rfl

@[simp] theorem bused_position (s : State) : (bused s).position = s.position := rfl

@[simp] theorem bused_target (s : State) : (bused s).target = s.target := rfl

@[simp] theorem bused_homed (s : State) : (bused s).homed = s.homed := rfl

@[simp] theorem bused_hb (s : State) : (bused s).hb = s.hb := rfl

@[simp] theorem bused_haltCause (s : State) : (bused s).haltCause = s.haltCause := rfl

@[simp] theorem bused_sqPhase (s : State) : (bused s).sqPhase = s.sqPhase := rfl

@[simp] theorem bused_sqTaken (s : State) : (bused s).sqTaken = s.sqTaken := rfl

@[simp] theorem bused_lastDir (s : State) : (bused s).lastDir = s.lastDir := rfl

@[simp] theorem bused_wires (s : State) : (bused s).wires =
    { scl := s.sclIn, sda := s.sdaIn, sbr := s.sbr, upN := s.upAsserted, dnN := s.dnAsserted
      setC := Reference.setC s, changedM := Reference.changedM s, busActive := Reference.active s
      took := false, move := none } := rfl

/-! ### The state after the controller -/

/-- The state after the controller: its registers hold what the reference says; a halt idles the sequencer and a move
is on its wire. -/
def controlled (s : State) : State :=
  { bused s with
    cstate := Reference.cstate s, hacc := Reference.hacc s, stimer := Reference.stimer s
    position := Reference.position s, target := Reference.target s
    homed := s.homed || Reference.homes s, hb := s.hb != Reference.retargets s
    haltCause := (Reference.halting s).or s.haltCause
    sqPhase := if Reference.halts s then .idle else s.sqPhase
    wires := { (bused s).wires with move := Reference.issued s } }

/-- A cycle that enters the halt does nothing else in the controller. -/
theorem controlled_of_halting {s : State} {k : HaltCause} (h : Reference.halting s = some k) :
    controlled s = enterHalt k (bused s) := by
  have hh : Reference.halts s = true := by simp [Reference.halts, h]
  simp [controlled, enterHalt, Reference.cstate, Reference.hacc, Reference.stimer, Reference.position,
    Reference.target, Reference.homes, Reference.retargets, Reference.issued, h, hh, bused, sampled, Wires.rest]

/-! ### When a cycle enters the halt -/

/-- The cause a settle state with timer 0 halts with: the budget first, then the switch (R183, R186, R189). -/
def verifyCause (b : Word32) (onBudget : HaltCause) (wrong : Bool) (onSwitch : HaltCause) (s : State) :
    Option HaltCause :=
  if s.stimer == 0 && b.ule s.hacc then some onBudget
  else if s.stimer == 0 && wrong then some onSwitch
  else none

theorem settle_verifyPhase_of_cause {b : Word32} {k j c : HaltCause} {wrong : Bool} (s : State) (n : CState)
    (h : verifyCause b k wrong j s = some c) : settle (verifyPhase b k wrong j n) s = enterHalt c s := by
  unfold verifyCause at h
  split at h
  next hb =>
    obtain ⟨ht, hb⟩ := Bool.and_eq_true_iff.mp hb
    obtain rfl := Option.some.inj h
    simp only [settle, verifyPhase, State.exhausted, ht, hb, if_true]
  next hb =>
    split at h
    next hw =>
      obtain ⟨ht, hw⟩ := Bool.and_eq_true_iff.mp hw
      obtain rfl := Option.some.inj h
      simp_all [settle, verifyPhase, State.exhausted]
    next => cases h

theorem settle_verifyPhase_of_none {b : Word32} {k j : HaltCause} {wrong : Bool} (s : State) (n : CState)
    (h : verifyCause b k wrong j s = none) : settle (verifyPhase b k wrong j n) s =
      if s.stimer == 0 then { s with hacc := 0, cstate := n } else { s with stimer := s.stimer - 1 } := by
  unfold settle
  split
  next ht =>
    rw [verifyCause, ht, Bool.true_and, Bool.true_and] at h
    obtain ⟨hb, hw⟩ : b.ule s.hacc = false ∧ wrong = false := by
      cases hb : b.ule s.hacc <;> cases wrong <;> simp_all
    simp only [verifyPhase, State.exhausted, hb, hw]
    rfl
  next => rfl

/-- Both limits asserted, where the configuration makes that a halt. -/
theorem halting_of_bothLimits {s : State} (h : s.bothLimitsFire s.upAsserted s.dnAsserted = true) :
    Reference.halting s = some .bothLimits := by
  simp only [State.bothLimitsFire, Bool.and_eq_true, bne_iff_ne] at h
  simp [Reference.halting, h]

/-- The cause of a cycle without the both-limits halt is that of the settle state it is in. -/
def settleCause (s : State) : Option HaltCause :=
  match s.cstate with
  | .h1Settle => verifyCause s.cfg.maxUpHomingBackoff .upBudget s.upAsserted .upStuck s
  | .h2Settle => verifyCause s.cfg.maxHomingSteps .seekBudget (!s.dnAsserted) .downMissing s
  | .h3Settle => verifyCause s.cfg.maxBackoffSteps .backoffBudget s.dnAsserted .downStuck s
  | _ => none

theorem halting_eq_settleCause {s : State} (h : s.bothLimitsFire s.upAsserted s.dnAsserted = false) :
    Reference.halting s = settleCause s := by
  have hq : s.cstate ≠ .halt → (s.cfg.bothLimitsHalt && s.upAsserted && s.dnAsserted) = false := fun hc => by
    simpa [State.bothLimitsFire, hc] using h
  cases hc : s.cstate <;>
    simp [Reference.halting, Reference.verifying, settleCause, verifyCause, hc, hq, beq_eq_decide]

/-- A cycle that does not halt has no both-limits halt and no cause in a settle state. -/
theorem not_bothLimits_of_halting_none {s : State} (h : Reference.halting s = none) :
    s.bothLimitsFire s.upAsserted s.dnAsserted = false := by
  rw [Bool.eq_false_iff]
  intro hf
  rw [halting_of_bothLimits hf] at h
  cases h

theorem settleCause_eq_none {s : State} (h : Reference.halting s = none) : settleCause s = none :=
  (halting_eq_settleCause (not_bothLimits_of_halting_none h)).symm.trans h

/-! ### A cycle that does not halt -/

theorem halts_of_halting_none {s : State} (h : Reference.halting s = none) : Reference.halts s = false := by
  rw [Reference.halts, h]
  rfl

/-- Without a halt, a state that waits for a busy sequencer changes nothing. -/
theorem controlled_of_waiting {s : State} (h : Reference.halting s = none) (hm : moving s.cstate = true)
    (hi : Reference.sqIdle s = false) : controlled s = bused s := by
  have hh := halts_of_halting_none h
  simp only [controlled, Reference.cstate, Reference.hacc, Reference.stimer, Reference.position, Reference.target,
    Reference.homes, Reference.retargets, Reference.issued, Reference.verifying, h, hh, hi, Option.none_or]
  cases hc : s.cstate <;> rw [hc] at hm
  case h1Move | h2Move | h3Move | h4Move | lMove =>
    simp [beq_eq_decide]
    rw [← hc]
    rfl
  all_goals cases hm

/-- Without a halt, a settle state whose timer runs counts down and changes nothing else (R193). -/
theorem controlled_of_settling {s : State} (h : Reference.halting s = none) (hs : settling s.cstate = true)
    (ht : s.stimer ≠ 0) : controlled s = { bused s with stimer := s.stimer - 1 } := by
  have hh := halts_of_halting_none h
  have ht' : (s.stimer == 0) = false := by simpa using ht
  simp only [controlled, Reference.cstate, Reference.hacc, Reference.stimer, Reference.position, Reference.target,
    Reference.homes, Reference.retargets, Reference.issued, Reference.verifying, h, hh, ht', Option.none_or]
  cases hc : s.cstate <;> rw [hc] at hs
  case h1Settle | h2Settle | h3Settle | h4Settle =>
    simp [hc, beq_eq_decide]
  all_goals cases hs

/-- The states that wait for a burst (R182, R185, R188, R191, R202). -/
theorem exec_instr_of_moving {s : State} (h : Reference.halting s = none) (hm : moving s.cstate = true) :
    exec s.cstate.instr (bused s) = .next (controlled s) := by
  have hh := halts_of_halting_none h
  have hidle : (bused s).sqIdle = Reference.sqIdle s := rfl
  cases hi : Reference.sqIdle s
  case false =>
    rw [controlled_of_waiting h hm hi]
    rw [hi] at hidle
    cases hc : s.cstate <;> rw [hc] at hm
    case h1Move | h2Move | h3Move | h4Move | lMove =>
      simp [CState.instr, exec, execH1Move, execH2Move, execH3Move, execH4Move, execLMove, awaitBurst, hidle]
    all_goals cases hm
  case true =>
    rw [hi] at hidle
    simp only [controlled, Reference.cstate, Reference.hacc, Reference.stimer, Reference.position, Reference.target,
      Reference.homes, Reference.retargets, Reference.issued, Reference.verifying, h, hh, hi, Option.none_or]
    cases hc : s.cstate <;> rw [hc] at hm
    case h1Move =>
      simp [CState.instr, exec, execH1Move, hidle, beq_eq_decide]
    case h2Move | h3Move =>
      simp [CState.instr, exec, execH2Move, execH3Move, awaitBurst, beginSettle, hidle, beq_eq_decide]
    case h4Move =>
      simp [CState.instr, exec, execH4Move, beginSettle, hidle, beq_eq_decide]
    case lMove =>
      cases hd : s.lastDir <;> simp [CState.instr, exec, execLMove, hidle, hd, beq_eq_decide]
    all_goals cases hm

/-- The settle states (R183, R186, R189, R192). -/
theorem exec_instr_of_settling {s : State} (h : Reference.halting s = none) (hs : settling s.cstate = true) :
    exec s.cstate.instr (bused s) = .next (controlled s) := by
  have hh := halts_of_halting_none h
  have hcause := settleCause_eq_none h
  by_cases ht : s.stimer = 0
  case neg =>
    rw [controlled_of_settling h hs ht]
    cases hc : s.cstate <;> rw [hc] at hs
    case h1Settle | h2Settle | h3Settle | h4Settle => exact congrArg Host.Outcome.next (if_neg (by simpa using ht))
    all_goals cases hs
  case pos =>
    simp only [controlled, Reference.cstate, Reference.hacc, Reference.stimer, Reference.position, Reference.target,
      Reference.homes, Reference.retargets, Reference.issued, Reference.verifying, h, hh, ht, Option.none_or]
    cases hc : s.cstate <;> rw [hc] at hs
    case h1Settle | h2Settle | h3Settle =>
      rw [settleCause, hc] at hcause
      refine (congrArg Host.Outcome.next (settle_verifyPhase_of_none (bused s) _ hcause)).trans ?_
      simp [ht, beq_eq_decide]
    case h4Settle =>
      simp [CState.instr, exec, execH4Settle, settle, ht, beq_eq_decide]
    all_goals cases hs

/-- L_COMPUTE (R201): the sign of the distance decides. -/
theorem execLCompute_bused {s : State} (h : Reference.halting s = none) (hc : s.cstate = .lCompute) :
    execLCompute (bused s) = .next (controlled s) := by
  have hh := halts_of_halting_none h
  have hd : (bused s).steps = s.target - s.position := rfl
  have hz : (0 : Word32).toInt = 0 := rfl
  have hzero : s.target = s.position ↔ (s.target - s.position).toInt = 0 := by
    rw [← hz, BitVec.toInt_inj, BitVec.sub_eq_iff_eq_add]
    simp
  simp only [execLCompute, controlled, Reference.cstate, Reference.hacc, Reference.stimer, Reference.position,
    Reference.target, Reference.homes, Reference.retargets, Reference.issued, Reference.verifying, h, hh, hc, hd,
    hz, hzero, BitVec.slt, BitVec.ofInt_toInt, BitVec.ofInt_neg, beq_eq_decide, Option.none_or, decide_eq_true_eq]
  generalize s.target - s.position = d
  obtain hlt | heq | hgt := lt_trichotomy d.toInt 0
  · simp [hlt, hlt.not_gt, hlt.ne, issueMove]
  · simp [heq]
  · simp [hgt, hgt.ne', issueMove]

/-- The states that neither wait for a burst nor settle. -/
theorem exec_instr_of_neither {s : State} (h : Reference.halting s = none) (hm : moving s.cstate = false)
    (hs : settling s.cstate = false) : exec s.cstate.instr (bused s) = .next (controlled s) := by
  have hh := halts_of_halting_none h
  cases hc : s.cstate <;> rw [hc] at hm hs
  case h1Move | h2Move | h3Move | h4Move | lMove => cases hm
  case h1Settle | h2Settle | h3Settle | h4Settle => cases hs
  case lCompute => exact execLCompute_bused h hc
  all_goals
    simp only [controlled, Reference.cstate, Reference.hacc, Reference.stimer, Reference.position, Reference.target,
      Reference.homes, Reference.retargets, Reference.issued, Reference.verifying, h, hh, hc, Option.none_or]
  case h1Check =>
    have hleft : (s.upAsserted && !s.cfg.maxUpHomingBackoff.ule s.hacc) =
        (s.upAsserted && s.hacc.ult s.cfg.maxUpHomingBackoff) := by rw [BitVec.ule_eq_not_ult, Bool.not_not]
    simp only [CState.instr, exec, execH1Check, State.exhausted, bused_wires, bused_cfg, bused_hacc, hleft]
    cases s.upAsserted && s.hacc.ult s.cfg.maxUpHomingBackoff <;>
      simp [beginSettle, issueMove, State.upBudgetLeft, beq_eq_decide]
  case h2Start =>
    cases hd : s.dnAsserted <;> simp [CState.instr, exec, execH2Start, beginSettle, issueMove, hd, beq_eq_decide]
  case h3Start | h4Start =>
    simp [CState.instr, exec, execH3Start, execH4Start, issueMove, beq_eq_decide]
  case lTarget =>
    simp [CState.instr, exec, execLTarget, scaledTarget]
  case halt =>
    simp [CState.instr, exec, execHalt, beq_eq_decide]
    rw [← hc]
    rfl

theorem exec_instr_of_not_halting {s : State} (h : Reference.halting s = none) :
    exec s.cstate.instr (bused s) = .next (controlled s) := by
  cases hm : moving s.cstate
  case true => exact exec_instr_of_moving h hm
  case false =>
    cases hs : settling s.cstate
    case true => exact exec_instr_of_settling h hs
    case false => exact exec_instr_of_neither h hm hs

/-! ### The selected operation -/

theorem exec_controllerOp_of_halting {s : State} {k : HaltCause} (h : Reference.halting s = some k) :
    exec (controllerOp (beginCycle s)) (bused s) = .next (enterHalt k (bused s)) := by
  have hop : controllerOp (beginCycle s) =
      if s.bothLimitsFire s.upAsserted s.dnAsserted then .bothLimits else s.cstate.instr := rfl
  cases hf : s.bothLimitsFire s.upAsserted s.dnAsserted
  case true =>
    obtain rfl : HaltCause.bothLimits = k := Option.some.inj ((halting_of_bothLimits hf).symm.trans h)
    rw [hop, hf]
    exact if_pos hf
  case false =>
    rw [halting_eq_settleCause hf] at h
    have hi : controllerOp (beginCycle s) = s.cstate.instr := by rw [hop, hf]; rfl
    rw [hi]
    unfold settleCause at h
    cases hc : s.cstate <;> rw [hc] at h
    case h1Settle => exact congrArg _ (settle_verifyPhase_of_cause (bused s) .h2Start h)
    case h2Settle => exact congrArg _ (settle_verifyPhase_of_cause (bused s) .h3Start h)
    case h3Settle => exact congrArg _ (settle_verifyPhase_of_cause (bused s) .h4Start h)
    all_goals cases h

theorem exec_controllerOp (s : State) : exec (controllerOp (beginCycle s)) (bused s) = .next (controlled s) := by
  cases h : Reference.halting s with
  | some k => rw [exec_controllerOp_of_halting h, controlled_of_halting h]
  | none =>
    have hop : controllerOp (beginCycle s) = s.cstate.instr :=
      if_neg (Bool.eq_false_iff.mp (not_bothLimits_of_halting_none h))
    rw [hop, exec_instr_of_not_halting h]

end Sys2Proof.Machine
end

section
/-! The sequencer's part of the cycle (spec/43_step_sequencer.md), the end of the cycle, and the whole: a step answers
the reference's next state. -/

namespace Sys2Proof.Machine

/-! ### What the controller leaves to the sequencer -/

@[simp] theorem controlled_cfg (s : State) : (controlled s).cfg = s.cfg := rfl

@[simp] theorem controlled_changed (s : State) : (controlled s).changed = Reference.changedM s := rfl

@[simp] theorem controlled_sqTimer (s : State) : (controlled s).sqTimer = s.sqTimer := rfl

@[simp] theorem controlled_sqMax (s : State) : (controlled s).sqMax = s.sqMax := rfl

@[simp] theorem controlled_sqTaken (s : State) : (controlled s).sqTaken = s.sqTaken := rfl

@[simp] theorem controlled_sqHp (s : State) : (controlled s).sqHp = s.sqHp := rfl

@[simp] theorem controlled_lastDir (s : State) : (controlled s).lastDir = s.lastDir := rfl

@[simp] theorem controlled_wires (s : State) :
    (controlled s).wires = { (bused s).wires with move := Reference.issued s } := rfl

theorem controlled_sqPhase {s : State} (hh : Reference.halts s = false) : (controlled s).sqPhase = s.sqPhase := by
  simp only [controlled, hh]
  rfl

/-! ### The sequencer -/

/-- The state after the sequencer. -/
def sequenced (s : State) : State :=
  { controlled s with
    sqPhase := Reference.sqPhase s, sqTimer := Reference.sqTimer s, sqMax := Reference.sqMax s
    sqTaken := Reference.sqTaken s, sqHp := Reference.sqHp s, lastDir := Reference.lastDir s
    changed := Reference.changed s
    wires := { (controlled s).wires with took := Reference.pulseEnds s && Reference.changedM s } }

/-- The controller is newly in HALT exactly when the cycle enters the halt (R223). -/
theorem newly_halted_eq_halts (s : State) :
    (Reference.cstate s == .halt && s.cstate != .halt) = Reference.halts s := by
  cases hh : Reference.halts s
  case true =>
    have hc : s.cstate ≠ .halt := fun hc => by simp [Reference.halts, Reference.halting, hc] at hh
    simp [Reference.cstate, hh, hc]
  case false =>
    cases hc : s.cstate <;> simp [Reference.cstate, hh, hc, beq_eq_decide] <;> split <;> simp

/-- The sequencer's operation in a cycle that does not enter the halt (R91): on the accepted move, or by its phase. -/
def sequencerOp (s : State) : Instr :=
  match Reference.accepted s with
  | some m => .seqStart (s.sqTimer == 0) m
  | none => sequencerInstr (s.sqTimer == 0) s.sqPhase

theorem sequencerOps_eq (s : State) :
    sequencerOps (beginCycle s) (controlled s) = if Reference.halts s then [] else [sequencerOp s] := by
  have hops : sequencerOps (beginCycle s) (controlled s) =
      if Reference.cstate s == .halt && s.cstate != .halt then []
      else match Reference.issued s with
        | some m =>
          if Reference.sqIdle s then [.seqStart (s.sqTimer == 0) m]
          else [sequencerInstr (s.sqTimer == 0) s.sqPhase]
        | none => [sequencerInstr (s.sqTimer == 0) s.sqPhase] := rfl
  rw [hops]
  simp only [newly_halted_eq_halts, sequencerOp, Reference.accepted]
  split
  · rfl
  · cases Reference.issued s <;> cases Reference.sqIdle s <;> rfl

/-- A cycle that enters the halt leaves the sequencer's other registers alone. -/
theorem sequenced_of_halts {s : State} (hh : Reference.halts s = true) : sequenced s = controlled s := by
  have ha : Reference.accepted s = none := by simp [Reference.accepted, Reference.issued, hh]
  have hp : Reference.pulseEnds s = false := by simp [Reference.pulseEnds, hh]
  simp [sequenced, Reference.sqPhase, Reference.sqTimer, Reference.sqMax, Reference.sqTaken, Reference.sqHp,
    Reference.lastDir, Reference.changed, ha, hh, hp, controlled, bused, sampled, Wires.rest]

/-- Only an idle sequencer accepts a move. -/
theorem idle_of_accepted {s : State} {m : MoveCmd} (ha : Reference.accepted s = some m) : s.sqPhase = .idle := by
  by_contra hi
  simp [Reference.accepted, Reference.sqIdle, hi] at ha

theorem exec_seqStart_controlled {s : State} {m : MoveCmd} (tz : Bool) (hh : Reference.halts s = false)
    (ha : Reference.accepted s = some m) : exec (.seqStart tz m) (controlled s) = .next (sequenced s) := by
  have hi : s.sqPhase = .idle := idle_of_accepted ha
  have hphase : (controlled s).sqPhase = .idle := (controlled_sqPhase hh).trans hi
  have hp : Reference.pulseEnds s = false := by simp [Reference.pulseEnds, hi]
  by_cases hn : m.n = 0#32 <;>
    simp [exec, execSeqStart, acceptMove, beginPulse, burstClear, sequenced, Reference.sqPhase, Reference.sqTimer,
      Reference.sqMax, Reference.sqTaken, Reference.sqHp, Reference.lastDir, Reference.changed, ha, hh, hi, hp, hn,
      hphase]

theorem endPulse_controlled (s : State) :
    endPulse (controlled s) =
      if Reference.burstEnds s then { takeChanged (controlled s) with sqTaken := s.sqTaken + 1, sqPhase := .idle }
      else { takeChanged (controlled s) with sqTaken := s.sqTaken + 1, sqPhase := .high, sqTimer := s.sqHp - 1 } := rfl

theorem exec_sequencerInstr_controlled {s : State} (hh : Reference.halts s = false)
    (ha : Reference.accepted s = none) :
    exec (sequencerInstr (s.sqTimer == 0) s.sqPhase) (controlled s) = .next (sequenced s) := by
  have hphase := controlled_sqPhase hh
  simp only [sequenced, Reference.sqPhase, Reference.sqTimer, Reference.sqMax, Reference.sqTaken, Reference.sqHp,
    Reference.lastDir, Reference.changed, Reference.pulseEnds, ha, hh]
  cases hi : s.sqPhase <;> rw [hi] at hphase
  case idle =>
    simp [sequencerInstr, exec, execSeqIdle, beq_eq_decide]
    rw [← hphase]; rfl
  case high =>
    by_cases ht : s.sqTimer = 0#32 <;>
      simp [sequencerInstr, exec, execSeqHighEnd, execSeqHighCount, ht, hphase, beq_eq_decide]
  case low =>
    by_cases ht : s.sqTimer = 0#32
    · cases hb : Reference.burstEnds s <;>
        simp [sequencerInstr, exec, execSeqPulseEnd, endPulse_controlled, ht, hb]
    · simp [sequencerInstr, exec, execSeqLowCount, ht, hphase, beq_eq_decide]

/-- The sequencer, after a controller that halts or not. -/
theorem execAll_sequencerOps (s : State) :
    execAll (sequencerOps (beginCycle s) (controlled s)) (controlled s) = .next (sequenced s) := by
  rw [sequencerOps_eq]
  cases hh : Reference.halts s
  case true => rw [sequenced_of_halts hh]; rfl
  case false =>
    rw [if_neg Bool.false_ne_true, execAll_singleton, sequencerOp]
    cases ha : Reference.accepted s with
    | some m => exact exec_seqStart_controlled _ hh ha
    | none => exact exec_sequencerInstr_controlled hh ha

/-! ### The cycle -/

theorem endCycle_sequenced (s : State) : endCycle (sequenced s) = Reference.activeNext s := by
  have hdout : (if Reference.active s && !s.sclIn then (Reference.shreg s).getLsbD 7
      else if Reference.active s then s.dout else true) = Reference.dout s := by
    unfold Reference.dout
    cases Reference.active s <;> cases s.sclIn <;> rfl
  rw [endCycle_eq, Reference.activeNext, ← hdout]
  rfl

/-- A cycle with `rst = 0` (R22). -/
theorem step_of_no_reset {s : State} (h : s.drive.rst = false) : step s = .next (Reference.activeNext s) := by
  have hcyc : step s = activeCycle (beginCycle s) := if_neg (Bool.eq_false_iff.mp h)
  have hselected : runWords (selections (beginCycle s)) (beginCycle s) = .next (controlled s) := by
    rw [runWords_eq_execAll _ (selections_decode (beginCycle s)) rfl]
    have hops : selectedOps (beginCycle s) = [.limitSample s.upAsserted s.dnAsserted, .busGate s.cstate] ++
        (busOps (beginCycle s) ++ [controllerOp (beginCycle s)]) := rfl
    rw [hops, execAll_append, execAll_monitor_gate, andThen_next, execAll_append, execAll_busOps, andThen_next,
      execAll_singleton, exec_controllerOp]
  have hseq : runWords (sequencerSelection (beginCycle s) (controlled s)) (controlled s) = .next (sequenced s) := by
    rw [runWords_eq_execAll (controlled s) (sequencerSelection_decodes (beginCycle s) (controlled s)) rfl,
      execAll_sequencerOps]
  rw [hcyc, activeCycle, hselected, andThen_next, hseq, andThen_next, endCycle_sequenced]

theorem advance_eq (s : State) :
    advance s = { s with drive := s.script.headD s.drive, script := s.script.tail, wires := Wires.rest } := by
  unfold advance
  cases s.script <;> rfl

/-- A cycle with `rst = 1` (R250). -/
theorem step_of_reset {s : State} (h : s.drive.rst = true) :
    step s = .next (State.resetOf s.cfg s.sclIn s.sdaIn s.upAsserted s.dnAsserted (Reference.nextDrive s)
      s.script.tail) := by
  have hcyc : step s = resetCycle (beginCycle s) := if_pos h
  rw [hcyc, resetCycle, resetWord, runWord_of_decode (decode_reset _)]
  exact congrArg Host.Outcome.next (advance_eq _)

theorem step_eq_next (s : State) : step s = .next (Reference.next s) := by
  unfold Reference.next
  split
  next h => exact step_of_reset h
  next h => exact step_of_no_reset (Bool.eq_false_iff.mpr h)

@[simp] theorem next_cfg (s : State) : (Reference.next s).cfg = s.cfg := by
  unfold Reference.next
  split <;> rfl

end Sys2Proof.Machine
end

section
open Sys2Proof.Machine

/-- Settles O10: each unit, run in the order of R22, leaves its registers at the reference's values of the pre-state
(`execAll_busOps`, `exec_controllerOp`, `execAll_sequencerOps`), and the end of the cycle gives the rest. -/
theorem stepIsThePreStateCycle : Obligations.StepIsThePreStateCycle := by
  unfold Obligations.StepIsThePreStateCycle
  exact step_eq_next

/-- Settles O12: the reference's next state is the one every cycle answers, and it keeps the configuration. -/
theorem everyCycleCompletes : Obligations.EveryCycleCompletes := by
  unfold Obligations.EveryCycleCompletes
  exact fun s => ⟨Sys2Proof.Reference.next s, step_eq_next s, next_cfg s⟩
end

section
/-! How a step is assembled from the decoded operations, the reset state (spec/10_state.md R53), and SBR (R33). -/

namespace Sys2Proof.Machine

/-- Executing operations keeps the configuration. -/
theorem execAll_cfg {is : List Instr} {s c : State} (h : execAll is s = .next c) : c.cfg = s.cfg := by
  induction is generalizing s with
  | nil => cases h; rfl
  | cons i is ih =>
    obtain ⟨t, ht, hcfg⟩ := exec_keepsCfg i s
    rw [execAll, ht, andThen_next] at h
    exact (ih h).trans hcfg

/-- Without reset, a step is the selected words, the sequencer's words on what they left, and the end of the cycle. -/
theorem step_of_runWords {s c c' : State} (hr : s.drive.rst = false)
    (hc : runWords (selections (beginCycle s)) (beginCycle s) = .next c)
    (hc' : runWords (sequencerSelection (beginCycle s) c) c = .next c') : step s = .next (endCycle c') := by
  have hcyc : step s = activeCycle (beginCycle s) := if_neg (Bool.eq_false_iff.mp hr)
  rw [hcyc, activeCycle, hc, andThen_next, hc', andThen_next]

end Sys2Proof.Machine

open Sys2Proof Sys2Proof.Machine

/-- Settles O8: running words is executing the operations they decode to, and no operation changes the configuration
that the second list of words is decoded under. -/
theorem stepRunsTheDecodedOperations : Obligations.StepRunsTheDecodedOperations := by
  unfold Obligations.StepRunsTheDecodedOperations
  intro s c c' ops sq hr hops hc hsq hc'
  have hcfg : c.cfg = s.cfg := execAll_cfg (s := beginCycle s) hc
  have hrun := (runWords_eq_execAll (beginCycle s) hops rfl).trans hc
  have hrun' := (runWords_eq_execAll c hsq hcfg).trans hc'
  exact step_of_runWords hr hrun hrun'

/-- Settles O11: the operation is `State.resetOf` by definition, and a reset cycle ends in a state it gives
(`step_of_reset`), whose registers and outputs are then read off. -/
theorem resetGivesTheResetState : Obligations.ResetGivesTheResetState := by
  unfold Obligations.ResetGivesTheResetState
  refine ⟨fun s => rfl, fun s h => ⟨_, step_of_reset h, ?_⟩⟩
  and_intros <;> rfl

/-- Settles O30: the reference's SBR on both kinds of cycle. -/
theorem sbrIsWrittenOnlyByItsService : Obligations.SbrIsWrittenOnlyByItsService := by
  unfold Obligations.SbrIsWrittenOnlyByItsService
  intro s
  cases hr : s.drive.rst
  case true => exact ⟨_, step_of_reset hr, rfl⟩
  case false =>
    refine ⟨_, step_of_no_reset hr, ?_⟩
    simp [Reference.activeNext, Reference.sbr, Reference.active, Reference.service, and_assoc]
end

section
/-! What a cycle does to the motion half, read from the reference: when the controller moves on, and what it then
writes (spec/44_homing.md, spec/45_position_loop.md). -/

namespace Sys2Proof.Machine

/-! ### The controller -/

theorem cstate_of_halts {s : State} (h : Reference.halts s = true) : Reference.cstate s = .halt := by
  simp [Reference.cstate, h]

/-- A state that issues a move waits for no burst. -/
theorem moving_eq_false_of_issued {s : State} (h : (Reference.issued s).isSome = true) : moving s.cstate = false := by
  cases hc : s.cstate <;> simp_all [Reference.issued, moving]

theorem toInt_sub_eq_zero_iff (x y : Word32) : (x - y).toInt = 0 ↔ x = y := by
  have hz : (0 : Word32).toInt = 0 := rfl
  rw [← hz, BitVec.toInt_inj, BitVec.sub_eq_iff_eq_add]
  simp

/-- L_COMPUTE issues no move at the target, and off it a burst for the signed distance (R201). -/
theorem issued_of_lCompute {s : State} (hh : Reference.halts s = false) (hc : s.cstate = .lCompute) :
    (s.target = s.position ∧ Reference.issued s = none) ∨
    (0 < (s.target - s.position).toInt ∧
      Reference.issued s = some { dir := .up, spd := .cruise, n := s.target - s.position }) ∨
    ((s.target - s.position).toInt < 0 ∧
      Reference.issued s = some { dir := .down, spd := .cruise, n := -(s.target - s.position) }) := by
  have hz := toInt_sub_eq_zero_iff s.target s.position
  simp only [Reference.issued, hh, hc, ← hz, Bool.false_eq_true, if_false]
  generalize s.target - s.position = d
  obtain hlt | heq | hgt := lt_trichotomy d.toInt 0
  · exact .inr (.inr ⟨hlt, by simp [hlt, hlt.not_gt, BitVec.ofInt_neg]⟩)
  · exact .inl ⟨heq, by simp [heq]⟩
  · exact .inr (.inl ⟨hgt, by simp [hgt]⟩)

/-- L_COMPUTE issues a move exactly off the target (R201). -/
theorem issued_isSome_of_lCompute {s : State} (hh : Reference.halts s = false) (hc : s.cstate = .lCompute) :
    (Reference.issued s).isSome = true ↔ s.target ≠ s.position := by
  rw [ne_eq, ← toInt_sub_eq_zero_iff]
  obtain ⟨ht, hi⟩ | ⟨hd, hi⟩ | ⟨hd, hi⟩ := issued_of_lCompute hh hc
  · simp [hi, ht]
  · simp only [hi, hd.ne', Option.isSome_some, not_false_eq_true]
  · simp only [hi, hd.ne, Option.isSome_some, not_false_eq_true]

/-- The controller waits for a burst after a cycle exactly when it issued the move in it, or was waiting and the
sequencer was busy (R161). -/
theorem moving_cstate_iff (s : State) : moving (Reference.cstate s) = true ↔
    (Reference.issued s).isSome = true ∨
      (Reference.halts s = false ∧ moving s.cstate = true ∧ s.sqPhase ≠ .idle) := by
  cases hh : Reference.halts s
  case true => simp [Reference.issued, cstate_of_halts hh, hh, moving]
  case false =>
    cases hc : s.cstate
    case lCompute =>
      rw [issued_isSome_of_lCompute hh hc]
      by_cases ht : s.target = s.position <;> simp [Reference.cstate, hh, hc, ht, moving]
    case h1Check => cases hi : (Reference.issued s).isSome <;> simp [Reference.cstate, hh, hc, hi, moving]
    case h2Start => cases hd : s.dnAsserted <;> simp [Reference.cstate, Reference.issued, hh, hc, hd, moving]
    case h1Move | h2Move | h3Move | h4Move | lMove =>
      by_cases hi : s.sqPhase = .idle <;>
        simp [Reference.cstate, Reference.issued, Reference.sqIdle, hh, hc, hi, moving]
    case h1Settle | h2Settle | h3Settle | h4Settle =>
      by_cases ht : s.stimer = 0#32 <;> simp [Reference.cstate, Reference.issued, hh, hc, ht, moving]
    all_goals simp [Reference.cstate, Reference.issued, hh, hc, moving]

/-- The states a controller that does not enter the halt can go to (R181 to R192, R201 to R203, R224). -/
def successors : CState → List CState
  | .h1Check => [.h1Move, .h1Settle]
  | .h1Move => [.h1Move, .h1Check]
  | .h1Settle => [.h1Settle, .h2Start]
  | .h2Start => [.h2Move, .h2Settle]
  | .h2Move => [.h2Move, .h2Settle]
  | .h2Settle => [.h2Settle, .h3Start]
  | .h3Start => [.h3Move]
  | .h3Move => [.h3Move, .h3Settle]
  | .h3Settle => [.h3Settle, .h4Start]
  | .h4Start => [.h4Move]
  | .h4Move => [.h4Move, .h4Settle]
  | .h4Settle => [.h4Settle, .lCompute]
  | .lCompute => [.lMove, .lTarget]
  | .lMove => [.lMove, .lTarget]
  | .lTarget => [.lCompute]
  | .halt => [.halt]

theorem cstate_mem_successors {s : State} (hh : Reference.halts s = false) :
    Reference.cstate s ∈ successors s.cstate := by
  cases hc : s.cstate <;> simp only [Reference.cstate, hh, hc, Bool.false_eq_true, if_false]
  case h3Start | h4Start | lTarget | halt => decide
  all_goals split <;> decide

/-- Only homing states lead to homing states. -/
theorem homing_of_mem_successors {c d : CState} (hd : d ∈ successors c) (h : c.homing = false) :
    d.homing = false := by
  have hall : c.homing = false → ∀ d ∈ successors c, d.homing = false := by cases c <;> decide
  exact hall h d hd

/-- No cycle returns to homing (the inference R194). -/
theorem homing_cstate_eq_false {s : State} (h : s.cstate.homing = false) :
    (Reference.cstate s).homing = false := by
  cases hh : Reference.halts s
  case true => rw [cstate_of_halts hh]; rfl
  case false => exact homing_of_mem_successors (cstate_mem_successors hh) h

/-- The cycle that completes homing is the last of H4_SETTLE, unless it halts (R192). -/
theorem homes_iff_enters_loop (s : State) :
    Reference.homes s = (s.cstate == .h4Settle && s.stimer == 0 && Reference.cstate s == .lCompute) := by
  unfold Reference.homes Reference.verifying
  cases hh : Reference.halts s
  case true => simp [cstate_of_halts hh, beq_eq_decide]
  case false =>
    by_cases hc : s.cstate = .h4Settle
    · by_cases ht : s.stimer = 0#32 <;> simp [Reference.cstate, hh, hc, ht]
    · simp [hc]

/-! ### The registers the controller writes -/

theorem position_of_not_writer {s : State} (h4 : s.cstate ≠ .h4Settle) (hl : s.cstate ≠ .lMove) :
    Reference.position s = s.position := by
  simp [Reference.position, Reference.homes, Reference.verifying, h4, hl]

theorem retargets_of_ne {s : State} (h : s.cstate ≠ .lTarget) : Reference.retargets s = false := by
  simp [Reference.retargets, h]

theorem target_of_ne {s : State} (h : s.cstate ≠ .lTarget) : Reference.target s = s.target := by
  simp [Reference.target, retargets_of_ne h]

theorem not_homing_iff (c : CState) :
    c.homing = false ↔ c = .lCompute ∨ c = .lMove ∨ c = .lTarget ∨ c = .halt := by
  cases c <;> decide

theorem stimer_of_not_homing {s : State} (h : s.cstate.homing = false) : Reference.stimer s = s.stimer := by
  obtain hc | hc | hc | hc := (not_homing_iff _).mp h <;> simp [Reference.stimer, hc]

theorem hacc_of_not_homing {s : State} (h : s.cstate.homing = false) : Reference.hacc s = s.hacc := by
  obtain hc | hc | hc | hc := (not_homing_iff _).mp h <;> simp [Reference.hacc, hc]

/-! ### The moves the sequencer accepts -/

theorem accepted_of_idle {s : State} (h : s.sqPhase = .idle) : Reference.accepted s = Reference.issued s := by
  simp [Reference.accepted, Reference.sqIdle, h]

theorem accepted_of_busy {s : State} (h : s.sqPhase ≠ .idle) : Reference.accepted s = none := by
  simp [Reference.accepted, Reference.sqIdle, h]

/-- A move is accepted exactly where an idle sequencer sees the controller begin to wait for a burst (R161). -/
theorem accepted_isSome_iff (s : State) : (Reference.accepted s).isSome = true ↔
    s.sqPhase = .idle ∧ moving s.cstate = false ∧ moving (Reference.cstate s) = true := by
  rw [moving_cstate_iff]
  by_cases hp : s.sqPhase = .idle
  · have hm := moving_eq_false_of_issued (s := s)
    rw [accepted_of_idle hp]
    simp_all
  · simp [accepted_of_busy hp, hp]

/-- A pulse ends where its low phase runs out, unless the cycle enters the halt (R167, R223). -/
theorem pulseEnds_iff (s : State) : Reference.pulseEnds s = true ↔
    s.sqPhase = .low ∧ s.sqTimer = 0 ∧ (Reference.cstate s = .halt → s.cstate = .halt) := by
  have hn : Reference.halts s = false ↔ (Reference.cstate s = .halt → s.cstate = .halt) := by
    rw [← newly_halted_eq_halts]
    simp [imp_iff_not_or, or_comm]
  simp [Reference.pulseEnds, ← hn, and_comm, and_left_comm]

end Sys2Proof.Machine

open Sys2Proof Sys2Proof.Machine

/-- Settles O15: the burst start is the acceptance of a move (`accepted_isSome_iff`), the pulse end is
`pulseEnds_iff`, and the two exclude each other by the sequencer's phase. -/
theorem changedFlagOverACycle : Obligations.ChangedFlagOverACycle := by
  unfold Obligations.ChangedFlagOverACycle
  intro s hr
  refine ⟨_, step_of_no_reset hr, ?_⟩
  change (_ → Reference.changed s = _) ∧ (_ → Reference.changed s = _) ∧ (_ → _ → Reference.changed s = _)
  simp only [Reference.activeNext, ← accepted_isSome_iff, ← pulseEnds_iff]
  unfold Reference.changed
  refine ⟨fun ha => if_pos ha, fun hp => ?_, fun ha hp => ?_⟩
  · have hbusy : s.sqPhase ≠ .idle := by simp [((pulseEnds_iff s).mp hp).1]
    rw [accepted_of_busy hbusy, hp]
    rfl
  · rw [if_neg ha, if_neg hp]
    rfl

/-- Settles O43, by `homing_cstate_eq_false` and `homes_iff_enters_loop`. -/
theorem homingRunsOnce : Obligations.HomingRunsOnce := by
  unfold Obligations.HomingRunsOnce
  intro s hr
  refine ⟨_, step_of_no_reset hr, homing_cstate_eq_false, ?_⟩
  exact congrArg (s.homed || ·) (homes_iff_enters_loop s)

/-- Settles O50: outside the states its rule names, the reference leaves each register alone. -/
theorem motionRegistersHaveTheirWriters : Obligations.MotionRegistersHaveTheirWriters := by
  unfold Obligations.MotionRegistersHaveTheirWriters
  intro s hr
  refine ⟨_, step_of_no_reset hr, fun h => ?_, fun h => ?_, fun h => ?_, fun h => ?_, fun h => ?_⟩
  · by_contra hc
    obtain ⟨h4, hl⟩ := not_or.mp hc
    exact h (position_of_not_writer h4 hl)
  · exact not_imp_comm.mp target_of_ne h
  · by_contra hc
    exact h (by simp [Reference.activeNext, retargets_of_ne hc])
  · by_contra hc
    exact h (stimer_of_not_homing (Bool.eq_false_iff.mpr hc))
  · by_contra hc
    exact h (hacc_of_not_homing (Bool.eq_false_iff.mpr hc))
end

section
/-! What the motion half can see (spec/60_exceptions.md R226): a cycle on a state and on one rebuilt from the motion
half, SBR, the configuration, the reset input and the pins alone gives the same motion half. -/

namespace Sys2Proof.Machine

/-- A state with the given motion half, SBR, configuration, reset input and pins, its bus engine at reset and its
lines released. -/
def ofMotion (c : Config) (m : MotionView) (sbr : Byte) (rst up dn : Bool) : State :=
  { State.resetOf c true true m.limUp m.limDn
      { rst := rst, scl := true, sda := true, limUpPin := up, limDnPin := dn } [] with
    sbr := sbr, changed := m.changed, sqPhase := m.sqPhase, sqTimer := m.sqTimer, sqMax := m.sqMax
    sqTaken := m.sqTaken, sqHp := m.sqHp, lastDir := m.lastDir, cstate := m.cstate, hacc := m.hacc
    stimer := m.stimer, position := m.position, target := m.target, homed := m.homed, hb := m.hb
    haltCause := m.haltCause }

/-- The rebuilt state of `s`. -/
def State.seenByMotion (s : State) : State :=
  ofMotion s.cfg s.motion s.sbr s.drive.rst s.drive.limUpPin s.drive.limDnPin

/-- The next motion half is a function of what `ofMotion` takes. -/
theorem next_motion_eq (s : State) : (Reference.next s).motion = (Reference.next s.seenByMotion).motion := by
  have hr : s.seenByMotion.drive.rst = s.drive.rst := rfl
  unfold Reference.next
  rw [hr]
  split <;> rfl

/-- The motion outputs are functions of the motion half and the configuration. -/
theorem motionOutputs_congr {s s' : State} (hc : s.cfg = s'.cfg) (hm : s.motion = s'.motion) :
    s.motionOutputs = s'.motionOutputs := by
  have hout : ∀ t : State, t.motionOutputs = (ofMotion t.cfg t.motion 0 false false false).motionOutputs :=
    fun _ => rfl
  rw [hout s, hout s', hc, hm]

end Sys2Proof.Machine

open Sys2Proof Sys2Proof.Machine

/-- Settles O58: both states are rebuilt as the same state (`State.seenByMotion`), and their next motion halves are
that state's (`next_motion_eq`). -/
theorem motionSeesTheBusOnlyThroughSbr : Obligations.MotionSeesTheBusOnlyThroughSbr := by
  unfold Obligations.MotionSeesTheBusOnlyThroughSbr
  intro s s' hcfg hmotion hsbr hrst hup hdn
  have hseen : s.seenByMotion = s'.seenByMotion := by
    simp only [State.seenByMotion, hcfg, hmotion, hsbr, hrst, hup, hdn]
  have hnext : (Reference.next s).motion = (Reference.next s').motion := by
    rw [next_motion_eq s, next_motion_eq s', hseen]
  have hcfg' : (Reference.next s).cfg = (Reference.next s').cfg := by simpa using hcfg
  exact ⟨_, _, step_eq_next s, step_eq_next s', hnext, motionOutputs_congr hcfg' hnext⟩
end

section
/-! The bus engine's clauses of the invariant over a cycle (spec/10_state.md R54, spec/41_bus_framing.md). -/

namespace Sys2Proof.Machine

/-! ### What a cycle can do to the enabling flags -/

/-- The clock stretch of a pending event holds SCL low (R127). -/
theorem sclIn_of_ovf {s : State} (h : s.ovf = true) : s.sclIn = false := by simp [State.sclIn, State.sclDl, h]

/-- A pending event is serviced (R141). -/
theorem service_of_ovf {s : State} (hi : s.Inv) (h : s.ovf = true) : Reference.service s = true := by
  simp [Reference.service, h, hi.ovf_enabled h]

/-- An event arises only in an open gate, at the sixteenth counted edge, with the start/stop unit quiet (R118). -/
theorem edge_of_ovf_next {s : State} (hi : s.Inv) (h : Reference.ovf s = true) :
    Reference.active s = true ∧ Reference.start s = false ∧ Reference.stop s = false ∧ Reference.commit s = false ∧
      Reference.service s = false ∧ Reference.edge s = true ∧ s.cnt = 15 := by
  unfold Reference.ovf at h
  split at h
  case isTrue => cases h
  case isFalse hq =>
    simp only [Bool.or_eq_true, Bool.not_eq_true', not_or, Bool.not_eq_true, Bool.not_eq_false] at hq
    obtain ⟨⟨⟨⟨ha, hs⟩, hp⟩, hc⟩, hv⟩ := hq
    split at h
    next he => simpa [ha, hs, hp, hc, hv] using he
    next => simp [service_of_ovf hi h] at hv

/-- After a cycle edges are counted only in an open gate without start and stop, where they were or a commit begins
it (R114). -/
theorem commit_or_bbEn_of_bbEn_next {s : State} (h : Reference.bbEn s = true) :
    Reference.active s = true ∧ Reference.start s = false ∧ Reference.stop s = false ∧
      (Reference.commit s = true ∨ s.bbEn = true) := by
  unfold Reference.bbEn at h
  split at h
  case isTrue => cases h
  case isFalse hq =>
    simp only [Bool.or_eq_true, Bool.not_eq_true', not_or, Bool.not_eq_true, Bool.not_eq_false] at hq
    obtain ⟨⟨ha, hs⟩, hp⟩ := hq
    refine ⟨ha, hs, hp, ?_⟩
    split at h
    next hc => exact .inl hc
    next =>
      split at h
      · cases h
      · exact .inr h

/-- A counted edge is an edge of SCL with counting enabled (R125). -/
theorem edge_iff (s : State) :
    Reference.edge s = true ↔ s.pScl ≠ s.sclIn ∧ s.bbEn = true ∧ s.ovf = false := by
  unfold Reference.edge Reference.rise Reference.fall
  cases s.pScl <;> cases s.sclIn <;> simp

/-- A cycle ends in SS_SETTLE on a start, or by staying there (R113, R116). -/
theorem start_or_settle_of_ss_next {s : State} (h : Reference.ss s = .settle) :
    Reference.start s = true ∨
      (Reference.start s = false ∧ Reference.stop s = false ∧ Reference.commit s = false ∧ s.ss = .settle) := by
  unfold Reference.ss at h
  split at h
  · cases h
  · split at h
    next hs => exact .inl hs
    next hs =>
      split at h
      · cases h
      next hq => simp_all

/-- A commit takes place in SS_SETTLE with SCL low (R114). -/
theorem settle_of_commit {s : State} (h : Reference.commit s = true) : s.ss = .settle ∧ s.sclIn = false := by
  simp only [Reference.commit, Bool.and_eq_true, beq_iff_eq, Bool.not_eq_true'] at h
  obtain ⟨⟨-, hss⟩, hscl⟩ := h
  exact ⟨hss, hscl⟩

/-! ### Clauses (a) and (b) -/

theorem next_ovf_enabled {s : State} (hi : s.Inv) (h : Reference.ovf s = true) : Reference.bbEn s = true := by
  obtain ⟨ha, hs, hp, hc, hv, he, -⟩ := edge_of_ovf_next hi h
  obtain ⟨-, hb, -⟩ := (edge_iff s).mp he
  simp [Reference.bbEn, ha, hs, hp, hc, hv, hb]

theorem next_settle_quiet {s : State} (hi : s.Inv) (h : Reference.ss s = .settle) :
    Reference.bbEn s = false ∧ Reference.ovf s = false ∧ Reference.oe s = false := by
  obtain hs | ⟨hs, hp, hc, hss⟩ := start_or_settle_of_ss_next h
  · simp [Reference.bbEn, Reference.ovf, Reference.oe, hs]
  · obtain ⟨hb, hv, ho⟩ := hi.settle_quiet hss
    simp [Reference.bbEn, Reference.ovf, Reference.oe, Reference.service, Reference.edge, hs, hp, hc, hb, hv, ho]

/-! ### The count follows the clock line (R129) -/

theorem next_event_low {s : State} (hi : s.Inv) (h : Reference.ovf s = true) :
    s.sclIn = false ∧ Reference.cnt s = 0 := by
  obtain ⟨ha, -, -, hc, hv, he, h15⟩ := edge_of_ovf_next hi h
  obtain ⟨hne, hb, ho⟩ := (edge_iff s).mp he
  have hscl : s.pScl = true := by rw [← hi.count_parity hb ho, h15]; rfl
  refine ⟨?_, by simp [Reference.cnt, ha, hc, hv, he, h15]⟩
  simpa [hscl] using hne.symm

/-- Each service leaves an even count of the counts an event comes with (R142 to R149). -/
theorem cnt_even_of_service {s : State} (hi : s.Inv) (hc : Reference.commit s = false)
    (hv : Reference.service s = true) : (Reference.cnt s).getLsbD 0 = false := by
  have hovf : s.ovf = true := by simp_all [Reference.service]
  have h0 : s.cnt = 0 := (hi.event_low hovf).2
  cases ha : Reference.active s
  case false => simp [Reference.cnt, ha]
  case true =>
    cases hp : s.pstate
    case checkAddress => cases hr : Reference.addressed s <;> simp [Reference.cnt, ha, hc, hv, hp, hr, h0]
    all_goals simp [Reference.cnt, ha, hc, hv, hp, h0]

theorem lsb_add_one (x : EdgeCount) : (x + 1).getLsbD 0 = !x.getLsbD 0 := by
  decide +revert

theorem next_count_parity {s : State} (hi : s.Inv) (hb : Reference.bbEn s = true) :
    (Reference.cnt s).getLsbD 0 = s.sclIn := by
  obtain ⟨ha, -, -, hcb⟩ := commit_or_bbEn_of_bbEn_next hb
  cases hc : Reference.commit s
  case true => simp [Reference.cnt, hc, (settle_of_commit hc).2]
  case false =>
    have hen : s.bbEn = true := by simpa [hc] using hcb
    cases hv : Reference.service s
    case true =>
      have hovf : s.ovf = true := by simp_all [Reference.service]
      rw [cnt_even_of_service hi hc hv, sclIn_of_ovf hovf]
    case false =>
      have hovf : s.ovf = false := by simpa [Reference.service, hen] using hv
      have hpar := hi.count_parity hen hovf
      by_cases he : s.pScl = s.sclIn
      · have hne : Reference.edge s = false := Bool.eq_false_iff.mpr fun h => ((edge_iff s).mp h).1 he
        simp only [Reference.cnt, ha, hc, hv, hne, ← he, ← hpar]
        rfl
      · have hedge : Reference.edge s = true := (edge_iff s).mpr ⟨he, hen, hovf⟩
        have hcnt : Reference.cnt s = s.cnt + 1 := by simp [Reference.cnt, ha, hc, hv, hedge]
        rw [hcnt, lsb_add_one, hpar]
        exact (Bool.eq_not.mpr (Ne.symm he)).symm

/-! ### SDA is not pulled low where it was seen high (R130) -/

theorem next_sda_released {s : State} (hscl : s.sclIn = true) (hsda : s.sdaIn = true) :
    (Reference.oe s && !Reference.dout s) = false := by
  have hovf : s.ovf = false := Bool.eq_false_iff.mpr fun ho => by simp [sclIn_of_ovf ho] at hscl
  have hdl : (s.oe && !s.dout) = false := by
    obtain ⟨-, hdl⟩ : _ ∧ s.sdaDl = false := by
      simpa only [State.sdaIn, Bool.and_eq_true, Bool.not_eq_true'] using hsda
    exact hdl
  have hv : Reference.service s = false := by simp [Reference.service, hovf]
  simp only [Reference.oe, Reference.dout, hv, hscl]
  cases Reference.active s
  · rfl
  · cases Reference.start s <;> cases Reference.stop s <;> simp [hdl]

end Sys2Proof.Machine
end

section
/-! The motion half's clauses of the invariant over a cycle (spec/10_state.md R54, spec/43_step_sequencer.md,
spec/44_homing.md, spec/45_position_loop.md). -/

namespace Sys2Proof.Machine

/-! ### Word arithmetic that does not wrap (R12, R205) -/

theorem toNat_sub_one_lt {x : Word32} (h : 1 ≤ x.toNat) : (x - 1).toNat < x.toNat := by bv_omega

theorem toInt_eq_toNat_of_nonneg {x : Word32} (h : 0 ≤ x.toInt) : x.toInt = x.toNat := by
  rw [BitVec.toInt_eq_toNat_cond] at *
  omega

theorem toInt_sub_eq {x y : Word32} (hx0 : 0 ≤ x.toInt) (hy0 : 0 ≤ y.toInt) :
    (x - y).toInt = x.toInt - y.toInt := by
  simp only [BitVec.toInt_eq_toNat_cond, BitVec.toNat_sub] at *
  omega

theorem toInt_add_of_range {x y : Word32} (hx : 0 ≤ x.toInt) (h : x.toInt + y.toNat < 2 ^ 31) :
    (x + y).toInt = x.toInt + y.toNat := by
  simp only [BitVec.toInt_eq_toNat_cond, BitVec.toNat_add] at *
  omega

theorem toInt_sub_of_range {x y : Word32} (h : y.toNat ≤ x.toInt) : (x - y).toInt = x.toInt - y.toNat := by
  simp only [BitVec.toInt_eq_toNat_cond, BitVec.toNat_sub] at *
  omega

/-! ### The sequencer -/

theorem one_le_halfPeriod (c : Config) (v : Speed) : 1 ≤ (halfPeriod c v).toNat := by
  obtain ⟨h1, h2, h3, h4, h5⟩ := c.halfPeriods_ne
  have hpos : ∀ x : Word32, x ≠ 0 → 1 ≤ x.toNat := fun x hx =>
    Nat.one_le_iff_ne_zero.mpr fun h => hx (BitVec.eq_of_toNat_eq h)
  cases v <;> simp only [halfPeriod] <;> exact hpos _ ‹_›

/-- The halt stops any burst (R223). -/
theorem halts_eq_false_of_busy_next {s : State} (h : Reference.sqPhase s ≠ .idle) : Reference.halts s = false :=
  Bool.eq_false_iff.mpr fun hh => h (by simp [Reference.sqPhase, hh])

/-- How the sequencer can be busy after a cycle: it accepts a move of some steps, is inside a pulse, or begins the
next one (R162 to R167). -/
theorem busy_next_cases {s : State} (h : Reference.sqPhase s ≠ .idle) :
    (∃ m, Reference.accepted s = some m ∧ m.n ≠ 0 ∧ Reference.sqTimer s = halfPeriod s.cfg m.spd - 1) ∨
    (s.sqPhase ≠ .idle ∧ Reference.pulseEnds s = false ∧
      (Reference.sqTimer s = s.sqHp - 1 ∨ s.sqTimer ≠ 0 ∧ Reference.sqTimer s = s.sqTimer - 1)) ∨
    (s.sqPhase ≠ .idle ∧ Reference.pulseEnds s = true ∧ (s.sqTaken + 1).toNat < s.sqMax.toNat ∧
      Reference.sqTimer s = s.sqHp - 1) := by
  have hh : Reference.halts s = false := halts_eq_false_of_busy_next h
  cases hp : s.sqPhase
  case idle =>
    cases ha : Reference.accepted s with
    | none => simp [Reference.sqPhase, hh, hp, ha] at h
    | some m =>
      have hn : m.n ≠ 0#32 := fun hn => by simp [Reference.sqPhase, hh, hp, ha, hn] at h
      exact .inl ⟨m, rfl, hn, by simp [Reference.sqTimer, hh, hp, ha, hn]⟩
  case high =>
    refine .inr (.inl ⟨nofun, by simp [Reference.pulseEnds, hp], ?_⟩)
    by_cases ht : s.sqTimer = 0#32 <;> simp [Reference.sqTimer, hh, hp, ht]
  case low =>
    by_cases ht : s.sqTimer = 0#32
    · have hb : Reference.burstEnds s = false := by
        by_contra hb
        simp [Reference.sqPhase, hh, hp, ht, hb] at h
      refine .inr (.inr ⟨nofun, by simp [Reference.pulseEnds, hh, hp, ht], ?_,
        by simp [Reference.sqTimer, hh, hp, ht, hb]⟩)
      simp only [Reference.burstEnds, Bool.or_eq_false_iff, BitVec.ule, decide_eq_false_iff_not] at hb
      omega
    · exact .inr (.inl ⟨nofun, by simp [Reference.pulseEnds, ht],
        .inr ⟨ht, by simp [Reference.sqTimer, hh, hp, ht]⟩⟩)

/-- What an accepted move loads (R162). -/
theorem loads_of_accepted {s : State} {m : MoveCmd} (h : Reference.accepted s = some m) :
    Reference.sqTaken s = 0 ∧ Reference.sqMax s = m.n ∧ Reference.sqHp s = halfPeriod s.cfg m.spd ∧
      Reference.lastDir s = m.dir := by
  simp [Reference.sqTaken, Reference.sqMax, Reference.sqHp, Reference.lastDir, h]

/-- A busy sequencer keeps its burst and counts the pulses that end (R167). -/
theorem keeps_of_busy {s : State} (h : s.sqPhase ≠ .idle) :
    Reference.sqTaken s = (if Reference.pulseEnds s then s.sqTaken + 1 else s.sqTaken) ∧
      Reference.sqMax s = s.sqMax ∧ Reference.sqHp s = s.sqHp ∧ Reference.lastDir s = s.lastDir := by
  simp [Reference.sqTaken, Reference.sqMax, Reference.sqHp, Reference.lastDir, accepted_of_busy h]

theorem next_busy_burst {s : State} (hi : s.Inv) (h : Reference.sqPhase s ≠ .idle) :
    (Reference.sqTaken s).toNat < (Reference.sqMax s).toNat ∧ 1 ≤ (Reference.sqHp s).toNat := by
  obtain ⟨m, ha, hn, -⟩ | ⟨hb, hp, -⟩ | ⟨hb, hp, hlt, -⟩ := busy_next_cases h
  · obtain ⟨htaken, hmax, hhp, -⟩ := loads_of_accepted ha
    rw [htaken, hmax, hhp]
    refine ⟨Nat.pos_of_ne_zero fun h0 => hn (BitVec.eq_of_toNat_eq h0), one_le_halfPeriod _ _⟩
  · obtain ⟨htaken, hmax, hhp, -⟩ := keeps_of_busy hb
    simpa [htaken, hmax, hhp, hp] using hi.busy_burst hb
  · obtain ⟨htaken, hmax, hhp, -⟩ := keeps_of_busy hb
    rw [htaken, hmax, hhp, hp]
    exact ⟨hlt, (hi.busy_burst hb).2⟩

theorem next_timer_within {s : State} (hi : s.Inv) (h : Reference.sqPhase s ≠ .idle) :
    (Reference.sqTimer s).toNat < (Reference.sqHp s).toNat := by
  obtain ⟨m, ha, -, ht⟩ | ⟨hb, -, ht⟩ | ⟨hb, -, -, ht⟩ := busy_next_cases h
  · obtain ⟨-, -, hhp, -⟩ := loads_of_accepted ha
    rw [ht, hhp]
    exact toNat_sub_one_lt (one_le_halfPeriod _ _)
  · obtain ⟨-, -, hhp, -⟩ := keeps_of_busy hb
    obtain ht | ⟨hne, ht⟩ := ht <;> rw [ht, hhp]
    · exact toNat_sub_one_lt (hi.busy_burst hb).2
    · have hlt := hi.timer_within hb
      bv_omega
  · obtain ⟨-, -, hhp, -⟩ := keeps_of_busy hb
    rw [ht, hhp]
    exact toNat_sub_one_lt (hi.busy_burst hb).2

/-! ### The controller and the sequencer keep in step -/

/-- A waiting state with a busy sequencer stays. -/
theorem cstate_of_waiting {s : State} (hh : Reference.halts s = false) (hm : moving s.cstate = true)
    (hb : s.sqPhase ≠ .idle) : Reference.cstate s = s.cstate := by
  cases hc : s.cstate <;> simp_all [Reference.cstate, Reference.sqIdle, moving]

/-- The sequencer is idle where the controller does not wait for a burst (R54 f). -/
theorem idle_of_not_moving {s : State} (hi : s.Inv) (h : moving s.cstate = false) : s.sqPhase = .idle := by
  by_contra hb
  simp [hi.busy_waits hb] at h

/-- Every issued move is accepted (R161). -/
theorem accepted_of_issued {s : State} (hi : s.Inv) {m : MoveCmd} (h : Reference.issued s = some m) :
    Reference.accepted s = some m := by
  have hm : moving s.cstate = false := moving_eq_false_of_issued (by simp [h])
  rw [accepted_of_idle (idle_of_not_moving hi hm), h]

theorem next_busy_waits {s : State} (hi : s.Inv) (h : Reference.sqPhase s ≠ .idle) :
    moving (Reference.cstate s) = true := by
  have hh : Reference.halts s = false := halts_eq_false_of_busy_next h
  have hbusy : s.sqPhase ≠ .idle → moving (Reference.cstate s) = true := fun hb =>
    (moving_cstate_iff s).mpr (.inr ⟨hh, hi.busy_waits hb, hb⟩)
  obtain ⟨m, ha, -⟩ | ⟨hb, -⟩ | ⟨hb, -⟩ := busy_next_cases h
  · obtain ⟨-, -, hm⟩ := (accepted_isSome_iff s).mp (by simp [ha])
    exact hm
  · exact hbusy hb
  · exact hbusy hb

theorem next_halt_idle {s : State} (hi : s.Inv) (h : Reference.cstate s = .halt) : Reference.sqPhase s = .idle := by
  by_contra hb
  have hm := next_busy_waits hi hb
  rw [h] at hm
  cases hm

theorem next_taken_within {s : State} (hi : s.Inv) (h : moving (Reference.cstate s) = true) :
    (Reference.sqTaken s).toNat ≤ (Reference.sqMax s).toNat := by
  obtain hs | ⟨-, -, hb⟩ := (moving_cstate_iff s).mp h
  · obtain ⟨m, hm⟩ := Option.isSome_iff_exists.mp hs
    rw [(loads_of_accepted (accepted_of_issued hi hm)).1]
    exact Nat.zero_le _
  · obtain ⟨htaken, hmax, -, -⟩ := keeps_of_busy hb
    have hlt := (hi.busy_burst hb).1
    rw [htaken, hmax]
    split
    · bv_omega
    · exact hlt.le

/-! ### The halt -/

theorem cstate_eq_halt_iff (s : State) :
    Reference.cstate s = .halt ↔ Reference.halts s = true ∨ s.cstate = .halt := by
  rw [← newly_halted_eq_halts]
  by_cases hc : s.cstate = .halt
  · simp [hc, Reference.cstate]
  · simp [hc]

theorem next_cause_in_halt {s : State} (hi : s.Inv) :
    Reference.cstate s = .halt ↔ (Reference.halting s).or s.haltCause ≠ none := by
  rw [cstate_eq_halt_iff, hi.cause_in_halt, Reference.halts]
  cases Reference.halting s <;> simp

/-! ### Homing -/

theorem next_homing_zero {s : State} (hi : s.Inv) (h : (Reference.cstate s).homing = true) :
    Reference.position s = 0 ∧ Reference.target s = 0 ∧ (s.homed || Reference.homes s) = false := by
  have hs : s.cstate.homing = true := by
    by_contra hs
    simp [homing_cstate_eq_false (Bool.eq_false_iff.mpr hs)] at h
  obtain ⟨hp, ht, hd⟩ := hi.homing_zero hs
  have hl : s.cstate ≠ .lMove := fun hc => by simp [hc, CState.homing] at hs
  have hlt : s.cstate ≠ .lTarget := fun hc => by simp [hc, CState.homing] at hs
  have hhomes : Reference.homes s = false := by
    rw [homes_iff_enters_loop]
    by_contra hc
    simp_all [CState.homing]
  refine ⟨?_, by rw [target_of_ne hlt, ht], by simp [hd, hhomes]⟩
  simp [Reference.position, hhomes, hl, hp]

/-- The burst that H1_CHECK issues is for the budget left (R181). -/
theorem issued_of_h1Check {s : State} {m : MoveCmd} (hc : s.cstate = .h1Check)
    (h : Reference.issued s = some m) :
    s.hacc.toNat < s.cfg.maxUpHomingBackoff.toNat ∧ m.n = s.cfg.maxUpHomingBackoff - s.hacc := by
  unfold Reference.issued at h
  split at h
  · cases h
  · simp only [hc] at h
    split at h
    next hlt =>
      obtain rfl := Option.some.inj h
      simp only [Bool.and_eq_true, BitVec.ult, decide_eq_true_eq] at hlt
      exact ⟨hlt.2, rfl⟩
    next => cases h

theorem halts_eq_false_of_issued {s : State} (h : (Reference.issued s).isSome = true) :
    Reference.halts s = false :=
  Bool.eq_false_iff.mpr fun hh => by simp [Reference.issued, hh] at h

/-- Which state a controller that issues a move goes from, and to (R181 to R191, R201). -/
theorem cstate_of_issued {s : State} (h : (Reference.issued s).isSome = true) :
    (s.cstate, Reference.cstate s) ∈ [(CState.h1Check, CState.h1Move), (.h2Start, .h2Move), (.h3Start, .h3Move),
      (.h4Start, .h4Move), (.lCompute, .lMove)] := by
  have hh : Reference.halts s = false := halts_eq_false_of_issued h
  cases hc : s.cstate
  case lCompute =>
    have hne := (issued_isSome_of_lCompute hh hc).mp h
    simp [Reference.cstate, hh, hc, hne]
  case h1Check => simp [Reference.cstate, hh, hc, h]
  case h2Start =>
    cases hd : s.dnAsserted <;> simp_all [Reference.cstate, Reference.issued]
  case h3Start | h4Start => simp [Reference.cstate, hh, hc]
  all_goals simp [Reference.issued, hc] at h

/-- H1_CHECK is reached when the burst of phase 1 is over, H1_SETTLE by checking or settling. -/
theorem phase1_of_mem_successors {c d : CState} (hd : d ∈ successors c) (h : d = .h1Check ∨ d = .h1Settle) :
    (c = .h1Move ∧ d = .h1Check) ∨ c = .h1Check ∨ (c = .h1Settle ∧ d = .h1Settle) := by
  have hall : ∀ d ∈ successors c, d = .h1Check ∨ d = .h1Settle →
      (c = .h1Move ∧ d = .h1Check) ∨ c = .h1Check ∨ (c = .h1Settle ∧ d = .h1Settle) := by cases c <;> decide
  exact hall d hd h

/-- The controller comes back to H1_CHECK with the steps of the burst added, or goes on with the steps so far (R181,
R182). -/
theorem hacc_of_phase1_next {s : State} (h : Reference.cstate s = .h1Check ∨ Reference.cstate s = .h1Settle) :
    (s.cstate = .h1Move ∧ Reference.hacc s = s.hacc + s.sqTaken) ∨
      ((s.cstate = .h1Check ∨ s.cstate = .h1Settle) ∧ Reference.hacc s = s.hacc) := by
  have hh : Reference.halts s = false := Bool.eq_false_iff.mpr fun hh => by simp [cstate_of_halts hh] at h
  obtain ⟨hc, hd⟩ | hc | ⟨hc, hd⟩ := phase1_of_mem_successors (cstate_mem_successors hh) h
  · cases hi : Reference.sqIdle s
    · simp [Reference.cstate, hh, hc, hi] at hd
    · simp [Reference.hacc, hh, hc, hi]
  · simp [Reference.hacc, hc]
  · by_cases ht : s.stimer = 0#32
    · simp [Reference.cstate, hh, hc, ht] at hd
    · simp [Reference.hacc, hc, ht]

theorem next_up_budget {s : State} (hi : s.Inv)
    (h : Reference.cstate s = .h1Check ∨ Reference.cstate s = .h1Settle) :
    (Reference.hacc s).toNat ≤ s.cfg.maxUpHomingBackoff.toNat := by
  obtain ⟨hc, hacc⟩ | ⟨hc, hacc⟩ := hacc_of_phase1_next h <;> rw [hacc]
  · have hburst := hi.up_burst hc
    have htaken := hi.taken_within (by simp [hc, moving])
    bv_omega
  · exact hi.up_budget hc

/-- The controller waits for a burst after a cycle that issued it, or in which it waited in the same state. -/
theorem issued_or_waiting {s : State} (h : moving (Reference.cstate s) = true) :
    (∃ m, Reference.issued s = some m) ∨
      (s.sqPhase ≠ .idle ∧ s.cstate = Reference.cstate s) := by
  obtain hs | ⟨hh, hm, hb⟩ := (moving_cstate_iff s).mp h
  · exact .inl (Option.isSome_iff_exists.mp hs)
  · exact .inr ⟨hb, (cstate_of_waiting hh hm hb).symm⟩

theorem next_up_burst {s : State} (hi : s.Inv) (h : Reference.cstate s = .h1Move) :
    (Reference.hacc s).toNat + (Reference.sqMax s).toNat = s.cfg.maxUpHomingBackoff.toNat := by
  obtain ⟨m, hm⟩ | ⟨hb, hc⟩ := issued_or_waiting (s := s) (by simp [h, moving])
  · have hfrom := cstate_of_issued (s := s) (by simp [hm])
    have hc : s.cstate = .h1Check := by simpa [h] using hfrom
    have hacc : Reference.hacc s = s.hacc := by simp [Reference.hacc, hc]
    obtain ⟨hlt, hn⟩ := issued_of_h1Check hc hm
    obtain ⟨-, hmax, -, -⟩ := loads_of_accepted (accepted_of_issued hi hm)
    rw [hacc, hmax, hn]
    bv_omega
  · rw [h] at hc
    have hacc : Reference.hacc s = s.hacc := by simp [Reference.hacc, Reference.sqIdle, hc, hb]
    obtain ⟨-, hmax, -, -⟩ := keeps_of_busy hb
    rw [hacc, hmax, hi.up_burst hc]

/-! ### The position loop -/

/-- The loop is entered from H4_SETTLE alone. -/
theorem inLoop_of_mem_successors {c d : CState} (hd : d ∈ successors c) (h : inLoop d = true) :
    inLoop c = true ∨ (c = .h4Settle ∧ d = .lCompute) := by
  have hall : ∀ d ∈ successors c, inLoop d = true → inLoop c = true ∨ (c = .h4Settle ∧ d = .lCompute) := by
    cases c <;> decide
  exact hall d hd h

/-- The loop is entered only where homing completes (R192). -/
theorem inLoop_or_homes_of_inLoop_next {s : State} (h : inLoop (Reference.cstate s) = true) :
    inLoop s.cstate = true ∨ Reference.homes s = true := by
  have hh : Reference.halts s = false := Bool.eq_false_iff.mpr fun hh => by simp [cstate_of_halts hh, inLoop] at h
  refine (inLoop_of_mem_successors (cstate_mem_successors hh) h).imp_right fun ⟨hc, hd⟩ => ?_
  by_cases ht : s.stimer = 0#32
  · simp [Reference.homes, Reference.verifying, hh, hc, ht]
  · simp [Reference.cstate, hh, hc, ht] at hd

/-- A burst of the loop does not leave the range between position and target (R202). -/
theorem position_between {s : State} (hi : s.Inv) (hc : s.cstate = .lMove) :
    (s.position.toInt ≤ (Reference.position s).toInt ∧ (Reference.position s).toInt ≤ s.target.toInt) ∨
      (s.target.toInt ≤ (Reference.position s).toInt ∧ (Reference.position s).toInt ≤ s.position.toInt) := by
  obtain ⟨-, hp0, hp1, ht0, ht1⟩ := hi.loop_ranges (by simp [hc, inLoop])
  have hscale := s.cfg.scale_le
  have htaken := hi.taken_within (by simp [hc, moving])
  have hpos : Reference.position s = (if !Reference.halts s && Reference.sqIdle s then
      (if s.lastDir == .up then s.position + s.sqTaken else s.position - s.sqTaken) else s.position) := by
    simp [Reference.position, Reference.homes, Reference.verifying, hc]
  rw [hpos]
  obtain ⟨hd, hburst⟩ | ⟨hd, hburst⟩ := hi.loop_burst hc
  · refine .inl ?_
    split
    · rw [hd, if_pos (by decide), toInt_add_of_range hp0 (by omega)]
      omega
    · omega
  · refine .inr ?_
    split
    · rw [hd, if_neg (by decide), toInt_sub_of_range (by omega)]
      omega
    · omega

theorem scaledTarget_range (c : Config) (b : Byte) :
    0 ≤ (b.setWidth 32 * c.scale).toInt ∧ (b.setWidth 32 * c.scale).toInt ≤ 255 * (c.scale.toNat : Int) := by
  have hscale := c.scale_le
  have hle : b.toNat * c.scale.toNat ≤ 255 * c.scale.toNat := Nat.mul_le_mul_right _ (by omega)
  have hnat : (b.setWidth 32 * c.scale).toNat = b.toNat * c.scale.toNat := by
    rw [BitVec.toNat_mul, BitVec.toNat_setWidth_of_le (by decide)]
    exact Nat.mod_eq_of_lt (by omega)
  rw [BitVec.toInt_eq_toNat_of_lt (by omega), hnat]
  omega

theorem next_loop_ranges {s : State} (hi : s.Inv) (h : inLoop (Reference.cstate s) = true) :
    (s.homed || Reference.homes s) = true ∧
      0 ≤ (Reference.position s).toInt ∧ (Reference.position s).toInt ≤ 255 * (s.cfg.scale.toNat : Int) ∧
      0 ≤ (Reference.target s).toInt ∧ (Reference.target s).toInt ≤ 255 * (s.cfg.scale.toNat : Int) := by
  cases hhomes : Reference.homes s
  case true =>
    have hc : s.cstate = .h4Settle := by
      simp only [homes_iff_enters_loop, Bool.and_eq_true, beq_iff_eq] at hhomes
      obtain ⟨⟨hc, -⟩, -⟩ := hhomes
      exact hc
    obtain ⟨-, ht, -⟩ := hi.homing_zero (by simp [hc, CState.homing])
    simp [Reference.position, hhomes, target_of_ne (s := s) (by simp [hc]), ht]
  case false =>
    have hl : inLoop s.cstate = true := by simpa [hhomes] using inLoop_or_homes_of_inLoop_next h
    obtain ⟨hd, hp0, hp1, ht0, ht1⟩ := hi.loop_ranges hl
    refine ⟨by simp [hd], ?_⟩
    have hpos : 0 ≤ (Reference.position s).toInt ∧
        (Reference.position s).toInt ≤ 255 * (s.cfg.scale.toNat : Int) := by
      by_cases hc : s.cstate = .lMove
      · obtain ⟨h1, h2⟩ | ⟨h1, h2⟩ := position_between hi hc <;> omega
      · rw [position_of_not_writer (fun h4 => by simp [h4, inLoop] at hl) hc]
        exact ⟨hp0, hp1⟩
    have htgt : 0 ≤ (Reference.target s).toInt ∧
        (Reference.target s).toInt ≤ 255 * (s.cfg.scale.toNat : Int) := by
      unfold Reference.target
      split
      · exact scaledTarget_range _ _
      · exact ⟨ht0, ht1⟩
    exact ⟨hpos.1, hpos.2, htgt.1, htgt.2⟩

theorem next_loop_burst {s : State} (hi : s.Inv) (h : Reference.cstate s = .lMove) :
    (Reference.lastDir s = .up ∧
      (Reference.target s).toInt - (Reference.position s).toInt = (Reference.sqMax s).toNat) ∨
    (Reference.lastDir s = .down ∧
      (Reference.position s).toInt - (Reference.target s).toInt = (Reference.sqMax s).toNat) := by
  obtain ⟨m, hm⟩ | ⟨hb, hc⟩ := issued_or_waiting (s := s) (by simp [h, moving])
  · have hfrom := cstate_of_issued (s := s) (by simp [hm])
    have hc : s.cstate = .lCompute := by simpa [h] using hfrom
    have hh : Reference.halts s = false := halts_eq_false_of_issued (by simp [hm])
    obtain ⟨-, hmax, -, hdir⟩ := loads_of_accepted (accepted_of_issued hi hm)
    obtain ⟨-, hp0, -, ht0, -⟩ := hi.loop_ranges (by simp [hc, inLoop])
    have hd := toInt_sub_eq ht0 hp0
    rw [target_of_ne (by simp [hc]), position_of_not_writer (by simp [hc]) (by simp [hc]), hmax, hdir]
    obtain ⟨-, hi'⟩ | ⟨hpos, hi'⟩ | ⟨hneg, hi'⟩ := issued_of_lCompute hh hc
    · simp [hm] at hi'
    · obtain rfl := Option.some.inj (hm.symm.trans hi')
      refine .inl ⟨rfl, ?_⟩
      rw [← hd]
      exact toInt_eq_toNat_of_nonneg hpos.le
    · obtain rfl := Option.some.inj (hm.symm.trans hi')
      refine .inr ⟨rfl, ?_⟩
      have hd' := toInt_sub_eq hp0 ht0
      rw [neg_sub, ← hd']
      exact toInt_eq_toNat_of_nonneg (by omega)
  · rw [h] at hc
    obtain ⟨-, hmax, -, hdir⟩ := keeps_of_busy hb
    have hpos : Reference.position s = s.position := by
      simp [Reference.position, Reference.homes, Reference.verifying, Reference.sqIdle, hc, hb]
    rw [hdir, hmax, hpos, target_of_ne (by simp [hc])]
    exact hi.loop_burst hc

/-! ### Every clause -/

/-- A cycle without reset keeps the invariant. -/
theorem activeNext_inv {s : State} (hi : s.Inv) : (Reference.activeNext s).Inv where
  ovf_enabled := next_ovf_enabled hi
  settle_quiet := next_settle_quiet hi
  busy_burst := next_busy_burst hi
  halt_idle h := ⟨next_halt_idle hi h, by
    have hp : (Reference.activeNext s).sqPhase = .idle := next_halt_idle hi h
    simp [State.stepOut, hp]⟩
  busy_waits := next_busy_waits hi
  loop_ranges := next_loop_ranges hi
  timer_within := next_timer_within hi
  taken_within := next_taken_within hi
  up_budget := next_up_budget hi
  up_burst := next_up_burst hi
  homing_zero := next_homing_zero hi
  loop_burst := next_loop_burst hi
  cause_in_halt := next_cause_in_halt hi
  event_low := next_event_low hi
  count_parity hb _ := next_count_parity hi hb
  sda_released := next_sda_released

theorem resetOf_inv (c : Config) (scl sda up dn : Bool) (d : Drive) (ds : List Drive) :
    (State.resetOf c scl sda up dn d ds).Inv := by
  constructor
  · constructor <;> simp [State.resetOf, inLoop]
  all_goals simp [State.resetOf, moving, State.sdaDl]

/-- Every cycle keeps the invariant, a reset cycle by beginning it anew. -/
theorem next_inv {s : State} (hi : s.Inv) : (Reference.next s).Inv := by
  unfold Reference.next
  split
  · exact resetOf_inv _ _ _ _ _ _ _
  · exact activeNext_inv hi

/-- A run from a state with the invariant completes, in a state with the invariant. -/
theorem after_inv (k : Nat) {s : State} (hi : s.Inv) : ∃ t, after k s = some t ∧ t.Inv := by
  induction k generalizing s with
  | zero => exact ⟨s, rfl, hi⟩
  | succ k ih =>
    obtain ⟨t, ht, hinv⟩ := ih (next_inv hi)
    exact ⟨t, by rw [after, step_eq_next]; exact ht, hinv⟩

end Sys2Proof.Machine

open Sys2Proof Sys2Proof.Machine

/-- Settles O56: the clauses are read off the reset registers; `State.reset` is one of these states. -/
theorem resetStatesHaveTheInvariant : Obligations.ResetStatesHaveTheInvariant := by
  unfold Obligations.ResetStatesHaveTheInvariant
  exact ⟨resetOf_inv, resetOf_inv _ _ _ _ _ _ _⟩

/-- Settles O57: the invariant holds at reset (`resetOf_inv`), every cycle keeps it (`next_inv`), and R54 is part of
it. -/
theorem reachableStatesAreSound : Obligations.ReachableStatesAreSound := by
  unfold Obligations.ReachableStatesAreSound
  intro c scl sda up dn d ds k
  obtain ⟨t, ht, hi⟩ := after_inv k (resetOf_inv c scl sda up dn d ds)
  exact ⟨t, ht, hi.toSound⟩
end

section
/-! The bus engine while an event is pending and while SCL is high (spec/41_bus_framing.md R129, R130), and the loop's
read of SBR in the cycle of a write (spec/20_memory.md R62). -/

namespace Sys2Proof.Machine

/-! ### Pending events (R127, R129) -/

/-- An event that arises in a cycle arises with the SCL fall in it. -/
theorem fall_of_ovf_next {s : State} (hi : s.Inv) (h : Reference.ovf s = true) : s.pScl = true ∧ s.sclIn = false := by
  obtain ⟨-, -, -, -, -, hedge, -⟩ := edge_of_ovf_next hi h
  obtain ⟨hne, -, -⟩ := (edge_iff s).mp hedge
  obtain ⟨hscl, -⟩ := next_event_low hi h
  exact ⟨by simpa [hscl] using hne, hscl⟩

/-! ### The SDA drive with SCL high (R130) -/

/-- SCL is high only with no event pending (R127). -/
theorem ovf_eq_false_of_sclIn {s : State} (h : s.sclIn = true) : s.ovf = false :=
  Bool.eq_false_iff.mpr fun ho => by simp [sclIn_of_ovf ho] at h

/-- In the cycle of a start SDA was seen high, in that of a stop it is high: the block does not pull it low. -/
theorem sda_released_of_start_or_stop {s : State} (hi : s.Inv)
    (h : Reference.start s = true ∨ Reference.stop s = true) : s.sdaDl = false := by
  obtain h | h := h
  · simp only [Reference.start, Bool.and_eq_true] at h
    obtain ⟨⟨⟨hpScl, -⟩, hpSda⟩, -⟩ := h
    exact hi.sda_released hpScl hpSda
  · simp only [Reference.stop, State.sdaIn, Bool.and_eq_true, Bool.not_eq_true'] at h
    obtain ⟨-, -, hdl⟩ := h
    exact hdl

/-- With SCL high and the gate open the output latch holds and only a start or a stop writes the enable (R122). -/
theorem next_sda_drive_of_scl_high {s : State} (ha : Reference.active s = true) (hscl : s.sclIn = true) :
    (Reference.oe s && !Reference.dout s) =
      if Reference.start s || Reference.stop s then false else s.sdaDl := by
  have hservice : Reference.service s = false := by simp [Reference.service, ovf_eq_false_of_sclIn hscl]
  have hdout : Reference.dout s = s.dout := by simp [Reference.dout, ha, hscl]
  cases hs : Reference.start s <;> cases hp : Reference.stop s <;>
    simp [Reference.oe, State.sdaDl, hdout, ha, hservice, hs, hp]

/-! ### The loop's read of SBR (R62) -/

/-- L_TARGET enters the halt only for both limits (R222). -/
theorem halts_eq_false_of_lTarget {s : State} (hc : s.cstate = .lTarget)
    (h : (s.cfg.bothLimitsHalt && s.upAsserted && s.dnAsserted) = false) : Reference.halts s = false := by
  have hfire : s.bothLimitsFire s.upAsserted s.dnAsserted = false := by simpa [State.bothLimitsFire, hc] using h
  exact halts_of_halting_none (by simp [halting_eq_settleCause hfire, settleCause, hc])

end Sys2Proof.Machine

open Sys2Proof Sys2Proof.Machine

/-- Settles O24: the count is even after a fall and odd after a rise (`fall_of_ovf_next`), and a pending event holds
SCL low after an SCL low sample, so no line event is seen. -/
theorem serviceCyclesAreQuiet : Obligations.ServiceCyclesAreQuiet := by
  unfold Obligations.ServiceCyclesAreQuiet
  intro s hi hr
  refine ⟨_, step_of_no_reset hr, fun _ h => fall_of_ovf_next hi h, fun ho => ?_⟩
  obtain ⟨hp, -⟩ := hi.event_low ho
  have hscl := sclIn_of_ovf ho
  refine ⟨hscl, hp, ?_⟩
  simp [State.startSeen, State.stopSeen, State.sclRose, State.sclFell, hp, hscl]

/-- Settles O25: the latch holds, and a start or a stop, which turns the output off, finds SDA released already. -/
theorem sdaDriveHoldsWhileSclIsHigh : Obligations.SdaDriveHoldsWhileSclIsHigh := by
  unfold Obligations.SdaDriveHoldsWhileSclIsHigh
  intro s hi hr ha hscl
  refine ⟨_, step_of_no_reset hr, (next_sda_drive_of_scl_high ha hscl).trans ?_⟩
  split
  next h => exact (sda_released_of_start_or_stop hi (Bool.or_eq_true_iff.mp h)).symm
  next => rfl

/-- Settles O31: the gate is open in the loop, so the service writes SBR, and the target is read from the pre-state's
SBR since the cycle does not halt. -/
theorem sbrReadsReturnThePreState : Obligations.SbrReadsReturnThePreState := by
  unfold Obligations.SbrReadsReturnThePreState
  intro s hr hc hlim ho hb hp
  have hactive : Reference.active s = true := by simp [Reference.active, Config.busActive, CState.homing, hc]
  have hservice : Reference.service s = true := by simp [Reference.service, ho, hb]
  have hhalts : Reference.halts s = false := halts_eq_false_of_lTarget hc hlim
  refine ⟨_, step_of_no_reset hr, ?_, ?_⟩
  · simp [Reference.activeNext, Reference.sbr, hactive, hservice, hp]
  · simp [Reference.activeNext, Reference.target, Reference.retargets, hhalts, hc]
end

section
/-! Bits shifted through the shift register (spec/20_memory.md R65, spec/41_bus_framing.md R117, R118, R122), and what
the SCL edges of a whole byte leave. -/

namespace Sys2Proof.Machine

/-! ### Shifting -/

/-- A bit enters the shift register at its least significant end (R117). -/
def shiftIn (x : Byte) (b : Bool) : Byte := (x <<< 1) ||| (BitVec.ofBool b).setWidth 8

theorem shiftIn_getLsbD_zero (x : Byte) (b : Bool) : (shiftIn x b).getLsbD 0 = b := by
  simp [shiftIn]

theorem shiftIn_getLsbD_succ (x : Byte) (b : Bool) {i : Nat} (h : i < 7) :
    (shiftIn x b).getLsbD (i + 1) = x.getLsbD i := by
  have h8 : i + 1 < 8 := by omega
  simp [shiftIn, h8, -BitVec.getLsbD_eq_getElem]

/-- The SDA line: the master's level, pulled low by a 0 at the output latch with the output on (R63, R123). -/
def sdaLine (oe dout b : Bool) : Bool := b && !(oe && !dout)

/-- The shift register after a clocked bit: the line, with the register's top bit at the latch, enters (R117, R122). -/
def clockBit (oe : Bool) (x : Byte) (b : Bool) : Byte := shiftIn x (sdaLine oe (x.getLsbD 7) b)

/-- Clocked bits move the bits that were there up, whatever the line showed. -/
theorem foldl_clockBit_getLsbD (oe : Bool) {i : Nat} (bs : List Bool) (x : Byte) (h : i + bs.length < 8) :
    (bs.foldl (clockBit oe) x).getLsbD (i + bs.length) = x.getLsbD i := by
  induction bs generalizing x i with
  | nil => rfl
  | cons b bs ih =>
    rw [List.length_cons] at h
    rw [List.foldl_cons, List.length_cons, Nat.add_comm bs.length 1, ← Nat.add_assoc, ih _ (by omega)]
    exact shiftIn_getLsbD_succ _ _ (by omega)

/-- With the output off the line shows the master's bit. -/
theorem clockBit_released (x : Byte) (b : Bool) : clockBit false x b = shiftIn x b := by
  simp [clockBit, sdaLine]

/-- The bits of a byte, most significant first (R65). -/
def byteBits (b : Byte) : List Bool := [7, 6, 5, 4, 3, 2, 1, 0].map b.getLsbD

/-- A bit clocked in stands as far up as bits followed it. -/
theorem received_getLsbD (pre post : List Bool) (b : Bool) (x : Byte) (h : post.length < 8) :
    ((pre ++ b :: post).foldl (clockBit false) x).getLsbD post.length = b := by
  have hup := foldl_clockBit_getLsbD false (i := 0) post (clockBit false (pre.foldl (clockBit false) x) b) (by omega)
  rw [Nat.zero_add] at hup
  rw [List.foldl_append, List.foldl_cons, hup, clockBit_released, shiftIn_getLsbD_zero]

/-- The eight bits of a byte replace whatever the shift register held. -/
theorem received_byteBits (b x : Byte) : (byteBits b).foldl (clockBit false) x = b := by
  refine BitVec.eq_of_getLsbD_eq fun i hi => ?_
  have hsplit : byteBits b = (byteBits b).take (7 - i) ++ b.getLsbD i :: (byteBits b).drop (8 - i) := by
    interval_cases i <;> rfl
  have hlen : ((byteBits b).drop (8 - i)).length = i := by
    simp only [List.length_drop, byteBits, List.length_map, List.length_cons, List.length_nil]
    omega
  have h := received_getLsbD ((byteBits b).take (7 - i)) ((byteBits b).drop (8 - i)) (b.getLsbD i) x (by omega)
  rwa [← hsplit, hlen] at h

theorem foldl_shiftIn_byteBits (b x : Byte) : (byteBits b).foldl shiftIn x = b := by
  have hclock : clockBit false = shiftIn := funext₂ clockBit_released
  rw [← hclock, received_byteBits]

/-! ### The edges of a bit -/

/-- The two edges of a bit with SDA at the level `b`. -/
def bitEdges (b : Bool) : List Instr := [.sclRise b b, .sclFall b b]

theorem execAll_bitEdges {s : State} (b : Bool) (hen : s.counting = true) (hn : s.cnt.toNat < 14) :
    execAll (bitEdges b) s = .next { s with shreg := shiftIn s.shreg b, cnt := s.cnt + 2 } := by
  have h0 : s.cnt ≠ 15#4 := fun h => by simp [h] at hn
  have h1 : s.cnt + 1#4 ≠ 15#4 := fun h => by bv_omega
  obtain ⟨hb, ho⟩ : s.bbEn = true ∧ s.ovf = false := by simpa [State.counting] using hen
  simp [bitEdges, execAll, exec_sclRise_eq, exec_sclFall_eq, State.counting, hb, ho, h0, h1, shiftIn, add_assoc]

/-- The second edge of the eighth bit is the sixteenth of the byte. -/
theorem execAll_bitEdges_last {s : State} (b : Bool) (hen : s.counting = true) (hn : s.cnt = 14) :
    execAll (bitEdges b) s = .next { s with shreg := shiftIn s.shreg b, cnt := 0, ovf := true } := by
  obtain ⟨hb, ho⟩ : s.bbEn = true ∧ s.ovf = false := by simpa [State.counting] using hen
  simp [bitEdges, execAll, exec_sclRise_eq, exec_sclFall_eq, State.counting, hb, ho, hn, shiftIn]

/-- The edges of bits that do not fill the count shift them in and are counted, two for each. -/
theorem execAll_bits {s : State} (bs : List Bool) (hen : s.counting = true) (hn : s.cnt.toNat + 2 * bs.length < 16) :
    execAll (bs.flatMap bitEdges) s =
      .next { s with shreg := bs.foldl shiftIn s.shreg, cnt := s.cnt + BitVec.ofNat 4 (2 * bs.length) } := by
  induction bs generalizing s with
  | nil => simp [execAll]
  | cons b bs ih =>
    rw [List.length_cons] at hn
    rw [List.flatMap_cons, execAll_append, execAll_bitEdges b hen (by omega), andThen_next, ih]
    · have hcnt : s.cnt + 2 + BitVec.ofNat 4 (2 * bs.length) = s.cnt + BitVec.ofNat 4 (2 * (bs.length + 1)) := by
        bv_omega
      simp only [List.foldl_cons, List.length_cons, hcnt]
    · exact hen
    · have h2 : (s.cnt + 2).toNat = s.cnt.toNat + 2 := by bv_omega
      simp only [h2]
      omega

/-- The edges of a byte, the last of which is its byte-boundary event. -/
theorem execAll_byte {s : State} (bs : List Bool) (b : Bool) (hen : s.counting = true) (hn : s.cnt = 0)
    (hlen : bs.length = 7) :
    execAll ((bs ++ [b]).flatMap bitEdges) s =
      .next { s with shreg := (bs ++ [b]).foldl shiftIn s.shreg, cnt := 0, ovf := true } := by
  rw [List.flatMap_append, execAll_append, execAll_bits bs hen (by simp [hn, hlen]), andThen_next,
    List.flatMap_singleton, List.foldl_append]
  exact execAll_bitEdges_last b hen (by simp [hn, hlen])

end Sys2Proof.Machine

open Sys2Proof Sys2Proof.Machine

/-- Settles O18: seven bits are counted without an event and the eighth brings it (`execAll_byte`), and the eight
bits are the byte (`received_byteBits`); from 14 one bit brings it. -/
theorem sixteenEdgesReceiveAByte : Obligations.SixteenEdgesReceiveAByte := by
  unfold Obligations.SixteenEdgesReceiveAByte
  intro s hb ho
  have hen : s.counting = true := by simp [State.counting, hb, ho]
  refine ⟨fun b hn => ?_, fun a hn => ⟨_, execAll_bitEdges_last a hen hn, rfl, rfl⟩⟩
  have hbyte := execAll_byte ((byteBits b).take 7) (b.getLsbD 0) hen hn rfl
  have hbits : (byteBits b).take 7 ++ [b.getLsbD 0] = byteBits b := rfl
  rw [hbits, foldl_shiftIn_byteBits, byteBits, List.flatMap_map] at hbyte
  exact hbyte
end

section
/-! The bus engine in an open gate as a machine of its own: its registers after a cycle are a function of its registers
and of what the other parties do with the lines (spec/60_exceptions.md R226), so a run is a fold over their drives. -/

namespace Sys2Proof.Machine

/-! ### One cycle -/

/-- A state with the given bus engine, the gate open and nothing else going on. -/
def ofBus (c : Config) (v : BusView) (scl sda : Bool) : State :=
  { State.resetOf c v.pScl v.pSda false false
      { rst := false, scl := scl, sda := sda, limUpPin := false, limDnPin := false } [] with
    cstate := .lCompute, ss := v.ss, pstate := v.pstate, bbEn := v.bbEn, ovf := v.ovf, cnt := v.cnt
    shreg := v.shreg, dout := v.dout, oe := v.oe, sbr := v.sbr }

/-- The bus engine after a cycle in an open gate. -/
def busCycle (c : Config) (v : BusView) (scl sda : Bool) : BusView :=
  (Reference.activeNext (ofBus c v scl sda)).bus

theorem activeNext_bus {s : State} (ha : Reference.active s = true) :
    (Reference.activeNext s).bus = busCycle s.cfg s.bus s.drive.scl s.drive.sda := by
  simp only [busCycle, State.bus, Reference.activeNext, Reference.ss, Reference.pstate, Reference.bbEn,
    Reference.ovf, Reference.cnt, Reference.dout, Reference.oe, Reference.sbr, Reference.shreg, ha]
  rfl

/-! ### The gate over a run -/

theorem active_of_gateStaysOpen {s : State} {k : Nat} (h : s.gateStaysOpen k) : Reference.active s = true := by
  obtain ⟨hhoming, hhalt⟩ := h
  have hnot : s.cstate = .halt → s.cfg.busActiveDuringHalt = true := fun hc => by simpa [hc, inLoop] using hhalt
  cases hm : s.cstate.homing <;> by_cases hc : s.cstate = .halt <;>
    simp_all [Reference.active, Config.busActive]

/-- The drives of the next cycles are among those to come. -/
theorem mem_drives_of_mem_next {s : State} {k : Nat} {d : Drive} (h : d ∈ (Reference.activeNext s).drives k) :
    d ∈ s.drives (k + 1) := by
  have hnext : (Reference.activeNext s).drives k = (s.script.headD s.drive :: s.script.tail).take k := rfl
  rw [hnext] at h
  rw [State.drives, List.take_succ_cons]
  cases hs : s.script with
  | nil =>
    rw [hs] at h
    have hd : d = s.drive := by simpa using List.mem_of_mem_take h
    simp [hd]
  | cons e es =>
    rw [hs] at h
    exact List.mem_cons_of_mem _ h

theorem calm_next {s : State} {k : Nat} (h : Calm s (k + 1)) : Calm (Reference.activeNext s) k :=
  fun d hd => h d (mem_drives_of_mem_next hd)

/-- The loop is left only for the halt of both limits (R222). -/
theorem inLoop_next {s : State} {k : Nat} (hl : inLoop s.cstate = true) (hcalm : Calm s (k + 1)) :
    inLoop (Reference.cstate s) = true := by
  obtain ⟨-, hlim⟩ := hcalm s.drive (by simp [State.drives])
  have hfire : s.bothLimitsFire s.upAsserted s.dnAsserted = false := by
    have hlim' : (s.cfg.bothLimitsHalt && s.upAsserted && s.dnAsserted) = false := hlim
    simp only [State.bothLimitsFire, Bool.and_assoc] at hlim' ⊢
    rw [hlim', Bool.and_false]
  have hcause : settleCause s = none := by cases hc : s.cstate <;> simp_all [settleCause, inLoop]
  have hmem := cstate_mem_successors (halts_of_halting_none ((halting_eq_settleCause hfire).trans hcause))
  have hall : inLoop s.cstate = true → ∀ d ∈ successors s.cstate, inLoop d = true := by
    cases s.cstate <;> decide
  exact hall hl _ hmem

theorem gateStaysOpen_next {s : State} {k : Nat} (h : s.gateStaysOpen (k + 1)) :
    (Reference.activeNext s).gateStaysOpen k := by
  obtain ⟨hhoming, hhalt⟩ := h
  refine ⟨fun hm => ?_, hhalt.imp_right fun ⟨hl, hcalm⟩ => ⟨inLoop_next hl hcalm, calm_next hcalm⟩⟩
  by_contra hc
  have hs : s.cstate.homing = false := Bool.eq_false_iff.mpr fun hs => hc (hhoming hs)
  have hm' : (Reference.cstate s).homing = true := hm
  simp [homing_cstate_eq_false hs] at hm'

/-! ### Runs -/

/-- The bus engine after the cycles of the given drives. -/
def busRun (c : Config) (v : BusView) (ds : List Drive) : BusView :=
  ds.foldl (fun v d => busCycle c v d.scl d.sda) v

theorem busRun_append (c : Config) (v : BusView) (ds es : List Drive) :
    busRun c v (ds ++ es) = busRun c (busRun c v ds) es := List.foldl_append

/-- While the gate stays open and there is no reset, the bus engine runs on the drives alone, and the drive after them
is the present one. -/
theorem after_bus {ds : List Drive} {k : Nat} {s : State} (hpre : ds <+: s.drive :: s.script)
    (hgate : s.gateStaysOpen k) (hk : ds.length ≤ k) (hrst : ∀ d ∈ ds, d.rst = false) :
    ∃ u, after ds.length s = some u ∧ u.bus = busRun s.cfg s.bus ds ∧
      ∀ e, ds ++ [e] <+: s.drive :: s.script → u.drive = e := by
  induction ds generalizing s k with
  | nil =>
    refine ⟨s, rfl, rfl, fun e he => ?_⟩
    obtain ⟨rfl, -⟩ := List.cons_prefix_cons.mp he
    rfl
  | cons d ds ih =>
    obtain ⟨rfl, hrest⟩ := List.cons_prefix_cons.mp hpre
    obtain ⟨k, rfl⟩ : ∃ j, k = j + 1 := Nat.exists_eq_add_one.mpr (by simp at hk; omega)
    have hstep := step_of_no_reset (hrst _ List.mem_cons_self)
    have hscript : ∀ {es : List Drive}, es <+: s.script →
        es <+: (Reference.activeNext s).drive :: (Reference.activeNext s).script := fun {es} hes => by
      cases hs : s.script with
      | nil =>
        obtain rfl := List.prefix_nil.mp (hs ▸ hes)
        exact List.nil_prefix
      | cons e es => simpa [Reference.activeNext, Reference.nextDrive, hs] using hes
    obtain ⟨u, hu, hbus, hdrive⟩ := ih (hscript hrest) (gateStaysOpen_next hgate) (by simpa using hk)
      fun d hd => hrst d (List.mem_cons_of_mem _ hd)
    refine ⟨u, by rw [List.length_cons, after, hstep]; exact hu, ?_, fun e he => ?_⟩
    · rw [hbus, activeNext_bus (active_of_gateStaysOpen hgate)]
      rfl
    · obtain ⟨-, he⟩ := List.cons_prefix_cons.mp he
      exact hdrive e (hscript he)

end Sys2Proof.Machine
end

section
/-! The bus engine through a transaction of the model's own master (log 20), bit by bit: where the bits of a transfer
leave it, and what a byte-boundary event makes of it (spec/42_bus_protocol.md). -/

namespace Sys2Proof.Machine

/-! ### Cycles while edges are counted -/

/-- The bus engine in a transfer: edges are counted and nothing is settling. -/
def countingView (scl sda : Bool) (p : PState) (ovf : Bool) (n : EdgeCount) (x : Byte) (dout oe : Bool) (r : Byte) :
    BusView where
  pScl := scl
  pSda := sda
  ss := .idle
  pstate := p
  bbEn := true
  ovf := ovf
  cnt := n
  shreg := x
  dout := dout
  oe := oe
  sbr := r

/-- The bus engine with SDA released and counting off: before a start is committed, and after the end of a transfer. -/
def releasedView (scl sda : Bool) (ss : SsState) (p : PState) (n : EdgeCount) (x : Byte) (dout : Bool) (r : Byte) :
    BusView where
  pScl := scl
  pSda := sda
  ss := ss
  pstate := p
  bbEn := false
  ovf := false
  cnt := n
  shreg := x
  dout := dout
  oe := false
  sbr := r

section
variable (c : Config) (p : PState) (n : EdgeCount) (x r : Byte) (sda dout oe b : Bool)

theorem busCycle_low : busCycle c (countingView false sda p false n x dout oe r) false b =
    countingView false (sdaLine oe dout b) p false n x (x.getLsbD 7) oe r := rfl

theorem busCycle_rise : busCycle c (countingView false sda p false n x dout oe r) true b =
    countingView true (sdaLine oe dout b) p (if n == 15 then true else false) (n + 1) (shiftIn x (sdaLine oe dout b))
      dout oe r := rfl

theorem busCycle_fall : busCycle c (countingView true sda p false n x dout oe r) false b =
    countingView false (sdaLine oe dout b) p (if n == 15 then true else false) (n + 1) x (x.getLsbD 7) oe r := rfl

/-- With SCL high in both samples a still SDA is no start and no stop. -/
theorem busCycle_high : busCycle c (countingView true (sdaLine oe dout b) p false n x dout oe r) true b =
    countingView true (sdaLine oe dout b) p false n x dout oe r := by
  cases oe <;> cases dout <;> cases b <;> rfl

/-! ### Cycles that service an event -/

/-- The service of a matching address byte, with no start, stop or commit in its cycle (R142, R143). -/
theorem activeNext_bus_of_addressed {s : State} (ha : Reference.active s = true) (hs : Reference.start s = false)
    (ht : Reference.stop s = false) (hc : Reference.commit s = false) (hv : Reference.service s = true)
    (hp : s.pstate = .checkAddress) (hr : Reference.addressed s = true) :
    (Reference.activeNext s).bus = { s.bus with
      pScl := s.sclIn, pSda := s.sdaIn, pstate := if s.shreg.getLsbD 0 then .dataSend else .dataRead, ovf := false
      cnt := 14, shreg := 0, dout := if s.sclIn then s.dout else false, oe := true } := by
  simp [State.bus, Reference.activeNext, Reference.ss, Reference.pstate, Reference.afterService, Reference.bbEn,
    Reference.ovf, Reference.cnt, Reference.dout, Reference.oe, Reference.sbr, Reference.shreg, ha, hs, ht, hc, hv,
    hp, hr]

/-- A matching address byte (R142, R143). -/
theorem busCycle_checkAddress (h : x.extractLsb' 1 7 = c.devAddr ∨ x.extractLsb' 1 7 = 0) :
    busCycle c (countingView false sda .checkAddress true n x dout oe r) false b =
      countingView false (sdaLine oe dout b) (if x.getLsbD 0 then .dataSend else .dataRead) false 14 0 false true
        r := by
  have hr : (x.extractLsb' 1 7 == c.devAddr || x.extractLsb' 1 7 == 0) = true := by simpa using h
  exact activeNext_bus_of_addressed (s := ofBus c (countingView false sda .checkAddress true n x dout oe r) false b)
    rfl rfl rfl rfl rfl rfl hr

/-- The byte to send (R147). -/
theorem busCycle_dataSend : busCycle c (countingView false sda .dataSend true n x dout oe r) false b =
    countingView false (sdaLine oe dout b) .dataSendAck false 0 r (r.getLsbD 7) true r := rfl

/-- The master's acknowledge bit is to come (R148). -/
theorem busCycle_dataSendAck : busCycle c (countingView false sda .dataSendAck true n x dout oe r) false b =
    countingView false (sdaLine oe dout b) .done false 14 x (x.getLsbD 7) false r := rfl

/-- The end of the transfer: no edge is counted any more (R149). -/
theorem busCycle_done : busCycle c (countingView false sda .done true n x dout oe r) false b =
    releasedView false (sdaLine oe dout b) .idle .done n x (x.getLsbD 7) r := rfl
end

/-! ### Cycles while no edge is counted -/

section
variable (c : Config) (p : PState) (n : EdgeCount) (x r : Byte) (sda dout b : Bool)

theorem busCycle_idle : busCycle c (releasedView true b .idle p n x dout r) true b =
    releasedView true b .idle p n x dout r := by
  cases b <;> rfl

/-- A start (R113). -/
theorem busCycle_start : busCycle c (releasedView true true .idle p n x dout r) true false =
    releasedView true false .settle .checkAddress n x dout r := rfl

theorem busCycle_settle : busCycle c (releasedView true false .settle p n x dout r) true false =
    releasedView true false .settle p n x dout r := rfl

/-- A start is committed by the SCL fall (R114). -/
theorem busCycle_commit : busCycle c (releasedView true sda .settle p n x dout r) false false =
    countingView false false p false 0 x (x.getLsbD 7) false r := rfl

theorem busCycle_idle_rise : busCycle c (releasedView false sda .idle p n x dout r) true b =
    releasedView true b .idle p n x dout r := by
  cases b <;> rfl

/-- A stop (R115). -/
theorem busCycle_stop : busCycle c (releasedView true false .idle p n x dout r) true true =
    releasedView true true .idle p n x dout r := rfl
end

/-! ### The master's bits -/

/-- The half of a bit in which its level is set. -/
def lows (up dn b : Bool) : List Drive := [masterCycle up dn false b, masterCycle up dn false b]

/-- The half of a bit in which it is sampled. -/
def highs (up dn b : Bool) : List Drive := [masterCycle up dn true b, masterCycle up dn true b]

theorem masterBit_eq (up dn b : Bool) : masterBit up dn b = lows up dn b ++ highs up dn b := rfl

/-- The master sends a byte most significant bit first (R65). -/
theorem masterByte_eq (up dn : Bool) (b : Byte) : masterByte up dn b = (byteBits b).flatMap (masterBit up dn) := rfl

/-- The engine between two bits: SCL low, and the shift register's top bit at the latch. -/
def BusView.Low (v : BusView) (p : PState) (n : EdgeCount) (x : Byte) (oe : Bool) (r : Byte) : Prop :=
  ∃ sda, v = countingView false sda p false n x (x.getLsbD 7) oe r

/-- A bit that does not fill the count is clocked in. -/
theorem low_clocked {v : BusView} {p : PState} {n : EdgeCount} {x r : Byte} {oe : Bool} (c : Config)
    (up dn b b' : Bool) (h : v.Low p n x oe r) (hn : n.toNat < 14) :
    (busRun c v (highs up dn b ++ lows up dn b')).Low p (n + 2) (clockBit oe x b) oe r := by
  obtain ⟨sda, rfl⟩ := h
  have h0 : (n == 15) = false := beq_eq_false_iff_ne.mpr (by bv_omega)
  have h1 : (n + 1 == 15) = false := beq_eq_false_iff_ne.mpr (by bv_omega)
  have h2 : n + 1 + 1 = n + 2 := add_assoc n 1 1
  simp only [busRun, highs, lows, masterCycle, List.cons_append, List.nil_append, List.foldl_cons, List.foldl_nil,
    busCycle_rise, busCycle_high, busCycle_fall, busCycle_low, h0, h1, h2, Bool.false_eq_true, if_false]
  exact ⟨_, rfl⟩

/-- The last bit of a count of sixteen brings the event, serviced in the next cycle. -/
theorem low_filled {v : BusView} {p : PState} {x r : Byte} {oe : Bool} (c : Config) (up dn b b' : Bool)
    (h : v.Low p 14 x oe r) : ∃ sda, busRun c v (highs up dn b ++ lows up dn b') =
      busCycle c (countingView false sda p true 0 (clockBit oe x b) ((clockBit oe x b).getLsbD 7) oe r) false b' := by
  obtain ⟨sda, rfl⟩ := h
  have h0 : ((14 : EdgeCount) == 15) = false := rfl
  have h1 : ((14 + 1 : EdgeCount) == 15) = true := rfl
  have h2 : (14 + 1 + 1 : EdgeCount) = 0 := rfl
  simp only [busRun, highs, lows, masterCycle, List.cons_append, List.nil_append, List.foldl_cons, List.foldl_nil,
    busCycle_rise, busCycle_high, busCycle_fall, h0, h1, h2, Bool.false_eq_true, if_false, if_true]
  exact ⟨_, rfl⟩

/-- The lines in the sampled half of a bit. -/
theorem lines_of_low {s : State} {p : PState} {n : EdgeCount} {x r : Byte} {oe up dn b : Bool}
    (h : s.bus.Low p n x oe r) (hd : s.drive = masterCycle up dn true b) :
    s.sclIn = true ∧ s.sdaIn = sdaLine oe (x.getLsbD 7) b := by
  obtain ⟨sda, hv⟩ := h
  have hovf : s.ovf = false := congrArg BusView.ovf hv
  have hoe : s.oe = oe := congrArg BusView.oe hv
  have hdout : s.dout = x.getLsbD 7 := congrArg BusView.dout hv
  simp [State.sclIn, State.sdaIn, State.sclDl, State.sdaDl, sdaLine, masterCycle, hd, hovf, hoe, hdout]

end Sys2Proof.Machine
end

section
/-! A read transaction (spec/30_encoding.md R95, spec/42_bus_protocol.md R140): the bits the master has sent, and where
each byte and each acknowledge bit leave the bus engine. -/

namespace Sys2Proof.Machine

/-! ### The drives of a transaction -/

/-- An idle cycle and the start condition. -/
def opening (up dn : Bool) : List Drive := masterCycle up dn true true :: itemDrives up dn false .start

/-- The drives up to the sampled half of the bit `b`, after the bits `bs`. -/
def untilBit (up dn : Bool) (bs : List Bool) (b : Bool) : List Drive :=
  opening up dn ++ bs.flatMap (masterBit up dn) ++ lows up dn b

theorem untilBit_concat (up dn b b' : Bool) (bs : List Bool) :
    untilBit up dn (bs ++ [b]) b' = untilBit up dn bs b ++ (highs up dn b ++ lows up dn b') := by
  simp [untilBit, masterBit_eq]

theorem length_untilBit (up dn b : Bool) (bs : List Bool) : (untilBit up dn bs b).length = 7 + 4 * bs.length := by
  have hbits : (bs.flatMap (masterBit up dn)).length = 4 * bs.length := by
    simp [List.length_flatMap, masterBit, Nat.mul_comm]
  simp only [untilBit, List.length_append, hbits]
  simp [opening, itemDrives, lows]
  omega

theorem rst_of_mem_untilBit (up dn b : Bool) (bs : List Bool) : ∀ d ∈ untilBit up dn bs b, d.rst = false := by
  simp [untilBit, opening, itemDrives, lows, masterBit, masterCycle, or_imp, forall_and]

/-- The drives of a transaction with the given bits, acknowledge bits included. -/
def transaction (up dn : Bool) (bits : List Bool) : List Drive :=
  untilBit up dn bits false ++ (highs up dn false ++ highs up dn true)

theorem length_transaction (up dn : Bool) (bits : List Bool) :
    (transaction up dn bits).length = 11 + 4 * bits.length := by
  simp only [transaction, List.length_append, length_untilBit, highs, List.length_cons, List.length_nil]
  omega

theorem rst_of_mem_transaction (up dn : Bool) (bits : List Bool) : ∀ d ∈ transaction up dn bits, d.rst = false := by
  have h := rst_of_mem_untilBit up dn false bits
  simp only [transaction, highs, masterCycle, List.mem_append, List.mem_cons, List.not_mem_nil, or_imp, forall_and]
  simpa using h

theorem untilBit_prefix (up dn b : Bool) (bs cs : List Bool) :
    untilBit up dn bs b ++ [masterCycle up dn true b] <+: transaction up dn (bs ++ b :: cs) := by
  refine ⟨masterCycle up dn true b :: cs.flatMap (masterBit up dn) ++ lows up dn false ++
    (highs up dn false ++ highs up dn true), ?_⟩
  simp [transaction, untilBit, masterBit, lows]

/-- The bits of a read transaction: the master releases SDA but for the address byte and its own acknowledge. -/
def readBits (a : BusAddr) (ack : Bool) : List Bool :=
  byteBits (addrByteBits a true) ++ [true] ++ List.replicate 8 true ++ [!ack]

/-- A byte written and the ninth bit, with SDA released. -/
theorem itemDrives_write (up dn low : Bool) (w : Byte) :
    itemDrives up dn low (.write w) = (byteBits w ++ [true]).flatMap (masterBit up dn) := by
  rw [itemDrives, masterByte_eq, List.flatMap_append, List.flatMap_singleton]

/-- Eight bits read, with SDA released, and the master's acknowledge. -/
theorem itemDrives_read (up dn low ack : Bool) :
    itemDrives up dn low (.read ack) = (List.replicate 8 true ++ [!ack]).flatMap (masterBit up dn) := by
  have hbits : byteBits 0xFF = List.replicate 8 true := rfl
  rw [itemDrives, masterByte_eq, List.flatMap_append, List.flatMap_singleton, hbits]

theorem scriptDrives_read (up dn ack : Bool) (a : BusAddr) :
    masterCycle up dn true true :: scriptDrives up dn false (if ack then scriptReadAck a else scriptRead a) =
      transaction up dn (readBits a ack) := by
  have hscript : (if ack then scriptReadAck a else scriptRead a) =
      [.start, .write (addrByteBits a true), .read ack, .stop] := by cases ack <;> rfl
  have hitems : scriptDrives up dn false [.start, .write (addrByteBits a true), .read ack, .stop] =
      itemDrives up dn false .start ++ (itemDrives up dn true (.write (addrByteBits a true)) ++
        (itemDrives up dn true (.read ack) ++ (itemDrives up dn true .stop ++ []))) := rfl
  have hstop : itemDrives up dn true .stop = lows up dn false ++ (highs up dn false ++ highs up dn true) := rfl
  rw [hscript, hitems, itemDrives_write, itemDrives_read, hstop]
  simp [transaction, untilBit, opening, readBits]

/-! ### The engine between bits -/

/-- After the bits `bs`, whatever the next bit, the bus engine has the property. -/
def AfterBits (c : Config) (v : BusView) (up dn : Bool) (bs : List Bool) (P : BusView → Prop) : Prop :=
  ∀ b, P (busRun c v (untilBit up dn bs b))

section
variable {c : Config} {v : BusView} {up dn : Bool} {bs : List Bool} {p : PState} {n : EdgeCount} {x r : Byte}
  {oe : Bool}

/-- The start begins the address byte (R113, R114). -/
theorem afterBits_nil (dout : Bool) :
    AfterBits c (releasedView true true .idle p n x dout r) up dn [] (·.Low .checkAddress 0 x false r) := by
  intro b
  simp only [busRun, untilBit, opening, itemDrives, lows, masterCycle, List.flatMap_nil, List.append_nil,
    List.nil_append, List.cons_append, List.foldl_cons, List.foldl_nil, Bool.false_eq_true, if_false, busCycle_idle,
    busCycle_start, busCycle_settle, busCycle_commit, busCycle_low]
  exact ⟨_, rfl⟩

/-- Bits that do not fill the count are clocked in. -/
theorem afterBits_append (cs : List Bool) (h : AfterBits c v up dn bs (·.Low p 0 x oe r)) (hlen : cs.length ≤ 7) :
    AfterBits c v up dn (bs ++ cs)
      (·.Low p (BitVec.ofNat 4 (2 * cs.length)) (cs.foldl (clockBit oe) x) oe r) := by
  induction cs using List.reverseRecOn with
  | nil => simpa using h
  | append_singleton cs b ih =>
    rw [List.length_append, List.length_singleton] at hlen
    intro b'
    have hlow := low_clocked c up dn b b' (ih (by omega) b) (by simp; omega)
    have hn : BitVec.ofNat 4 (2 * cs.length) + 2 = BitVec.ofNat 4 (2 * (cs.length + 1)) := by bv_omega
    rw [hn] at hlow
    rw [← List.append_assoc, untilBit_concat, busRun_append, List.foldl_append, List.length_append,
      List.length_singleton]
    exact hlow

/-- The bit that fills the count brings the event, whose service leaves what it leaves. -/
theorem afterBits_event {P : BusView → Prop} (b : Bool) (h : AfterBits c v up dn bs (·.Low p 14 x oe r))
    (hserve : ∀ sda b', P (busCycle c
      (countingView false sda p true 0 (clockBit oe x b) ((clockBit oe x b).getLsbD 7) oe r) false b')) :
    AfterBits c v up dn (bs ++ [b]) P := by
  intro b'
  obtain ⟨sda, hrun⟩ := low_filled c up dn b b' (h b)
  rw [untilBit_concat, busRun_append, hrun]
  exact hserve sda b'

/-- A whole byte: seven bits, then the one that brings the event. -/
theorem afterBits_byte {P : BusView → Prop} (cs : List Bool) (b : Bool)
    (h : AfterBits c v up dn bs (·.Low p 0 x oe r)) (hlen : cs.length = 7)
    (hserve : ∀ sda dout b', P (busCycle c
      (countingView false sda p true 0 ((cs ++ [b]).foldl (clockBit oe) x) dout oe r) false b')) :
    AfterBits c v up dn (bs ++ (cs ++ [b])) P := by
  have h7 := afterBits_append cs h hlen.le
  rw [hlen] at h7
  rw [← List.append_assoc]
  refine afterBits_event b h7 fun sda b' => ?_
  have hs := hserve sda (((cs ++ [b]).foldl (clockBit oe) x).getLsbD 7) b'
  rwa [List.foldl_append] at hs

/-- The address byte of a read, to the device or to all (R143). -/
theorem afterBits_readAddress {a : BusAddr} (ha : a = c.devAddr ∨ a = 0)
    (h : AfterBits c v up dn [] (·.Low .checkAddress 0 x false r)) :
    AfterBits c v up dn (byteBits (addrByteBits a true)) (·.Low .dataSend 14 0 true r) := by
  have haddr : (addrByteBits a true).extractLsb' 1 7 = a := by
    refine BitVec.eq_of_getLsbD_eq fun i hi => ?_
    simp only [addrByteBits, BitVec.getLsbD_extractLsb', BitVec.getLsbD_append]
    simp [hi]
  have hread : (addrByteBits a true).getLsbD 0 = true := by
    simp only [addrByteBits, BitVec.getLsbD_append]
    rfl
  refine afterBits_byte ((byteBits (addrByteBits a true)).take 7) ((addrByteBits a true).getLsbD 0) h rfl
    fun sda dout b' => ?_
  have hbyte : ((byteBits (addrByteBits a true)).take 7 ++ [(addrByteBits a true).getLsbD 0]).foldl
    (clockBit false) x = addrByteBits a true := received_byteBits _ _
  rw [hbyte, busCycle_checkAddress _ _ _ _ _ _ _ _ (by rwa [haddr]), hread]
  exact ⟨_, rfl⟩

/-- The acknowledge bit of a read's address byte loads SBR to be sent (R147). -/
theorem afterBits_ackAddress (h : AfterBits c v up dn bs (·.Low .dataSend 14 x true r)) :
    AfterBits c v up dn (bs ++ [true]) (·.Low .dataSendAck 0 r true r) :=
  afterBits_event true h fun _ _ => ⟨_, busCycle_dataSend ..⟩

/-- The eighth bit sent leaves SDA to the master (R148). -/
theorem afterBits_sent (h : AfterBits c v up dn bs (·.Low .dataSendAck 0 x true r)) :
    ∃ y, AfterBits c v up dn (bs ++ List.replicate 8 true) (·.Low .done 14 y false r) :=
  ⟨_, afterBits_byte (List.replicate 7 true) true h rfl fun _ _ _ => ⟨_, busCycle_dataSendAck ..⟩⟩

/-- The master's acknowledge bit, either way, ends the transfer (R149). -/
theorem afterBits_done (b : Bool) (h : AfterBits c v up dn bs (·.Low .done 14 x false r)) :
    AfterBits c v up dn (bs ++ [b]) fun w =>
      ∃ sda y dout, w = releasedView false sda .idle .done 0 y dout r :=
  afterBits_event b h fun _ _ => ⟨_, _, _, busCycle_done ..⟩

/-- A stop after the end of a transfer leaves the engine as it is. -/
theorem busRun_stop (sda dout : Bool) :
    busRun c (releasedView false sda .idle p n x dout r) (highs up dn false ++ highs up dn true) =
      releasedView true true .idle p n x dout r := by
  simp only [busRun, highs, masterCycle, List.nil_append, List.cons_append, List.foldl_cons, List.foldl_nil,
    busCycle_idle_rise, busCycle_idle, busCycle_stop]

end

/-! ### The read transaction -/

/-- An idle bus engine waits for a start. -/
theorem bus_of_busIdle {s : State} (h : s.busIdle) :
    s.bus = releasedView true true .idle s.pstate s.cnt s.shreg s.dout s.sbr := by
  obtain ⟨hscl, hsda, hss, hb, ho, hoe⟩ := h
  simp only [State.bus, hscl, hsda, hss, hb, ho, hoe]
  rfl

/-- A state about to see a master play a transaction, its gate open until the end. -/
structure Plays (s : State) (up dn : Bool) (bits : List Bool) : Prop where
  drives : s.drive :: s.script = transaction up dn bits
  gate : s.gateStaysOpen (transaction up dn bits).length

/-- In the sampled half of each bit of a transaction the lines are those of the engine after the bits before it. -/
theorem lines_at_bit {s : State} {up dn b : Bool} {bs cs : List Bool} {p : PState} {n : EdgeCount} {x r : Byte}
    {oe : Bool} (h : Plays s up dn (bs ++ b :: cs)) (hlow : AfterBits s.cfg s.bus up dn bs (·.Low p n x oe r)) :
    ∃ u, after (7 + 4 * bs.length) s = some u ∧ u.sclIn = true ∧ u.sdaIn = sdaLine oe (x.getLsbD 7) b := by
  have hpre : untilBit up dn bs b ++ [masterCycle up dn true b] <+: s.drive :: s.script :=
    h.drives ▸ untilBit_prefix up dn b bs cs
  have hlen : (untilBit up dn bs b).length ≤ (transaction up dn (bs ++ b :: cs)).length :=
    ((List.prefix_append _ _).trans (untilBit_prefix up dn b bs cs)).length_le
  obtain ⟨u, hu, hbus, hdrive⟩ :=
    after_bus ((List.prefix_append _ _).trans hpre) h.gate hlen (rst_of_mem_untilBit up dn b bs)
  rw [length_untilBit] at hu
  exact ⟨u, hu, lines_of_low (hbus ▸ hlow b) (hdrive _ hpre)⟩

/-- At the end of a transaction the bus engine is where the bits and the stop leave it. -/
theorem after_transaction {s : State} {up dn : Bool} {bits : List Bool} (h : Plays s up dn bits) :
    ∃ u, after (11 + 4 * bits.length) s = some u ∧
      u.bus =
        busRun s.cfg (busRun s.cfg s.bus (untilBit up dn bits false)) (highs up dn false ++ highs up dn true) := by
  obtain ⟨u, hu, hbus, -⟩ :=
    after_bus (h.drives ▸ List.prefix_refl _) h.gate le_rfl (rst_of_mem_transaction up dn bits)
  rw [length_transaction] at hu
  exact ⟨u, hu, by rw [hbus, transaction, busRun_append]⟩

/-- The bits of a read around the `i`-th bit of its data byte. -/
theorem readBits_split (a : BusAddr) (ack : Bool) {i : Nat} (h : i < 8) :
    readBits a ack = (byteBits (addrByteBits a true) ++ [true] ++ List.replicate i true) ++
      true :: (List.replicate (7 - i) true ++ [!ack]) := by
  have h8 : List.replicate 8 true = List.replicate i true ++ true :: List.replicate (7 - i) true := by
    rw [← List.replicate_succ, List.replicate_append_replicate]
    congr 1
    omega
  simp [readBits, h8]

section
variable {s : State} {a : BusAddr} {up dn ack : Bool}

/-- A read transaction up to the acknowledge of its address byte. -/
theorem afterBits_addressed (hidle : s.busIdle) (ha : a = s.cfg.devAddr ∨ a = 0) :
    AfterBits s.cfg s.bus up dn (byteBits (addrByteBits a true)) (·.Low .dataSend 14 0 true s.sbr) := by
  rw [bus_of_busIdle hidle]
  exact afterBits_readAddress ha (afterBits_nil s.dout)

/-- A read transaction up to its data byte. -/
theorem afterBits_acknowledged (hidle : s.busIdle) (ha : a = s.cfg.devAddr ∨ a = 0) :
    AfterBits s.cfg s.bus up dn (byteBits (addrByteBits a true) ++ [true]) (·.Low .dataSendAck 0 s.sbr true s.sbr) :=
  afterBits_ackAddress (afterBits_addressed hidle ha)

/-- The address byte is acknowledged. -/
theorem read_acknowledged (h : Plays s up dn (readBits a ack)) (hidle : s.busIdle) (ha : a = s.cfg.devAddr ∨ a = 0) :
    ∃ u, after 39 s = some u ∧ u.sclIn = true ∧ u.sdaIn = false := by
  have hbits : readBits a ack = byteBits (addrByteBits a true) ++ true :: (List.replicate 8 true ++ [!ack]) := by
    simp [readBits]
  exact lines_at_bit (hbits ▸ h) (afterBits_addressed hidle ha)

/-- The data bits are those of SBR, most significant first. -/
theorem read_sends {i : Nat} (h : Plays s up dn (readBits a ack)) (hidle : s.busIdle)
    (ha : a = s.cfg.devAddr ∨ a = 0) (hi : i < 8) :
    ∃ u, after (43 + 4 * i) s = some u ∧ u.sclIn = true ∧ u.sdaIn = s.sbr.getLsbD (7 - i) := by
  have hlow := afterBits_append (List.replicate i true) (afterBits_acknowledged (up := up) (dn := dn) hidle ha)
    (by rw [List.length_replicate]; omega)
  obtain ⟨u, hu, hscl, hsda⟩ := lines_at_bit (readBits_split a ack hi ▸ h) hlow
  have htop := foldl_clockBit_getLsbD true (i := 7 - i) (List.replicate i true) s.sbr
    (by rw [List.length_replicate]; omega)
  rw [List.length_replicate, Nat.sub_add_cancel (by omega)] at htop
  have hcycle : 7 + 4 * (byteBits (addrByteBits a true) ++ [true] ++ List.replicate i true).length = 43 + 4 * i := by
    simp [byteBits]
    omega
  rw [hcycle] at hu
  exact ⟨u, hu, hscl, by rw [hsda, htop]; simp [sdaLine]⟩

/-- The transaction ends with SBR as it was and the block off the bus. -/
theorem read_ends (h : Plays s up dn (readBits a ack)) (hidle : s.busIdle) (ha : a = s.cfg.devAddr ∨ a = 0) :
    ∃ u, after 83 s = some u ∧ u.sbr = s.sbr ∧ u.pstate = .done ∧ u.bbEn = false ∧ u.sdaDl = false := by
  obtain ⟨y, hsent⟩ := afterBits_sent (afterBits_acknowledged (up := up) (dn := dn) hidle ha)
  obtain ⟨sda, y, dout, hdone⟩ := afterBits_done (!ack) hsent false
  obtain ⟨u, hu, hbus⟩ := after_transaction h
  rw [readBits, hdone, busRun_stop] at hbus
  have hoe : u.oe = false := congrArg BusView.oe hbus
  exact ⟨u, hu, congrArg BusView.sbr hbus, congrArg BusView.pstate hbus, congrArg BusView.bbEn hbus,
    by simp [State.sdaDl, hoe]⟩
end

end Sys2Proof.Machine

open Sys2Proof Sys2Proof.Machine

/-- Settles O34: the master's drives are a transaction of 18 bits (`scriptDrives_read`), on which the bus engine runs
alone (`after_bus`); its state between the bits gives the lines (`lines_at_bit`) and the end. -/
theorem readTransactionSendsTheByte : Obligations.ReadTransactionSendsTheByte := by
  unfold Obligations.ReadTransactionSendsTheByte
  intro s a ack up dn hidle hgate ha hdrive hscript
  have hplays : Plays s up dn (readBits a ack) :=
    { drives := by rw [hdrive, hscript, scriptDrives_read], gate := hgate }
  exact ⟨read_acknowledged hplays hidle ha, fun i hi => read_sends hplays hidle ha hi, read_ends hplays hidle ha⟩
end

section
/-! The decoder on every word (spec/30_encoding.md R80 to R92): the words of a format are those its fields give,
and what the decoder answers on each of them, rejections included. -/

namespace Sys2Proof

/-! ### The words of each format -/

theorem lineBits_getLsbD (w : BitVec 4) :
    lineBits (w.getLsbD 3) (w.getLsbD 2) (w.getLsbD 1) (w.getLsbD 0) = w := by
  decide +revert

theorem ssCtxBits_getLsbD (w : BitVec 5) :
    ssCtxBits (SsState.ofCode (w.getLsbD 4)) (lineBits (w.getLsbD 3) (w.getLsbD 2) (w.getLsbD 1) (w.getLsbD 0)) =
      w := by
  decide +revert

theorem limitPairBits_getLsbD (w : BitVec 2) : limitPairBits (w.getLsbD 1) (w.getLsbD 0) = w := by
  decide +revert

theorem CState.code_ofCode (w : BitVec 4) : (CState.ofCode w).code = w := by
  decide +revert

/-- The codes below the reserved ones are the protocol states (R86). -/
theorem exists_pstate_of_lt {w : BitVec 3} (h : w.toNat < 6) : ∃ p, PState.code p = w := by
  have hall : ∀ w : BitVec 3, w.toNat < 6 → w = 0 ∨ w = 1 ∨ w = 2 ∨ w = 3 ∨ w = 4 ∨ w = 5 := by decide
  obtain rfl | rfl | rfl | rfl | rfl | rfl := hall w h
  exacts [⟨.checkAddress, rfl⟩, ⟨.dataRead, rfl⟩, ⟨.dataReadAck, rfl⟩, ⟨.dataSend, rfl⟩, ⟨.dataSendAck, rfl⟩,
    ⟨.done, rfl⟩]

/-- The codes but 0 are the causes (spec/60_exceptions.md R222). -/
theorem exists_haltCause_of_ne {w : BitVec 3} (h : w ≠ 0) : ∃ k, HaltCause.code k = w := by
  have hall : ∀ w : BitVec 3, w ≠ 0 → w = 1 ∨ w = 2 ∨ w = 3 ∨ w = 4 ∨ w = 5 ∨ w = 6 ∨ w = 7 := by decide
  obtain rfl | rfl | rfl | rfl | rfl | rfl | rfl := hall w h
  exacts [⟨.upBudget, rfl⟩, ⟨.upStuck, rfl⟩, ⟨.seekBudget, rfl⟩, ⟨.downMissing, rfl⟩, ⟨.backoffBudget, rfl⟩,
    ⟨.downStuck, rfl⟩, ⟨.bothLimits, rfl⟩]

/-- The values below the reserved ones are those of the sequencer's phases (R88). -/
theorem exists_sqCtx_of_lt {w : BitVec 3} (h : w.toNat < 6) : ∃ ph tz, sqCtxBits ph tz = w := by
  have hall : ∀ w : BitVec 3, w.toNat < 6 → w = 0 ∨ w = 1 ∨ w = 2 ∨ w = 3 ∨ w = 4 ∨ w = 5 := by decide
  obtain rfl | rfl | rfl | rfl | rfl | rfl := hall w h
  exacts [⟨.idle, false, rfl⟩, ⟨.idle, true, rfl⟩, ⟨.high, false, rfl⟩, ⟨.high, true, rfl⟩, ⟨.low, false, rfl⟩,
    ⟨.low, true, rfl⟩]

/-- Address and read/write bit stand in the address byte where R82 puts them. -/
theorem addrByteBits_fields (a : BusAddr) (rw : Bool) :
    (addrByteBits a rw).extractLsb' 1 7 = a ∧ (addrByteBits a rw).getLsbD 0 = rw := by
  refine ⟨BitVec.eq_of_getLsbD_eq fun i hi => ?_, ?_⟩
  · simp only [addrByteBits, BitVec.getLsbD_extractLsb', BitVec.getLsbD_append]
    simp [hi]
  · simp only [addrByteBits, BitVec.getLsbD_append]
    cases rw <;> rfl

theorem addrByteBits_extract (w : Byte) : addrByteBits (w.extractLsb' 1 7) (w.getLsbD 0) = w := by
  refine BitVec.eq_of_getLsbD_eq fun i hi => ?_
  simp only [addrByteBits, BitVec.getLsbD_append, BitVec.getLsbD_extractLsb']
  cases i with
  | zero => simp
  | succ n =>
    have hn : n < 7 := by omega
    simp [hn, Nat.add_comm 1 n]

/-- A word with its stray bits clear is a selector of the slot's width. -/
theorem exists_opWord {n : Nat} {o : OpWord} (h : o.bits.toNat < 2 ^ n) : ∃ w : BitVec n, o = opWord o.slot w := by
  refine ⟨o.bits.setWidth n, ?_⟩
  have hbits : (o.bits.setWidth n).setWidth 48 = o.bits := by
    refine BitVec.eq_of_toNat_eq ?_
    rw [BitVec.toNat_setWidth, BitVec.toNat_setWidth, Nat.mod_eq_of_lt h, Nat.mod_eq_of_lt o.bits.isLt]
  rw [opWord, hbits]

/-! ### Line samples (R84, R85) -/

theorem decode_lineBits (c : Config) (pScl pSda scl sda : Bool) :
    decode c (opWord .line (lineBits pScl pSda scl sda)) =
      (match pScl, scl with
        | false, true => .ok (.sclRise pSda sda)
        | true, false => .ok (.sclFall pSda sda)
        | false, false => .ok (.sclLow pSda sda)
        | true, true => if pSda = sda then .ok (.sclHigh sda) else .error .startOrStop) := by
  cases pScl <;> cases scl
  case true.true =>
    by_cases h : pSda = sda
    · rw [decode_line c true pSda true sda (by simp [h]), h]
      exact (if_pos rfl).symm
    · obtain ⟨h3, h2, h1, h0⟩ := lineBits_bits true pSda true sda
      rw [decode_opWord c _ (by decide) (by decide)]
      simp [decodeSelector, decodeLine, h3, h2, h1, h0, h, -BitVec.getLsbD_eq_getElem]
  all_goals exact decode_line c _ pSda _ sda rfl

theorem decode_ssCtxBits (c : Config) (ss : SsState) (pScl pSda scl sda : Bool) :
    decode c (opWord .startStop (ssCtxBits ss (lineBits pScl pSda scl sda))) =
      (if pScl && pSda && scl && !sda then .ok (.startDetect ss)
        else if pScl && !pSda && scl && sda then .ok (.stopDetect ss)
        else if ss = .settle then (if scl then .ok (.settleWait pScl pSda sda) else .ok (.startCommit pScl pSda sda))
        else .error .noAction) := by
  obtain ⟨h4, h3, h2, h1, h0⟩ := ssCtxBits_bits ss pScl pSda scl sda
  have hw := selector_of_byte (ssCtxBits ss (lineBits pScl pSda scl sda)) (by decide)
  have hss : SsState.ofCode (ss == .settle) = ss := by cases ss <;> rfl
  rw [decode_opWord c _ (by decide) (by decide)]
  simp only [decodeSelector, hw, decodeStartStop, h4, h3, h2, h1, h0, hss]
  cases ss
  case idle => rfl
  case settle => cases scl <;> rfl

theorem decode_count (c : Config) (pScl pSda scl sda : Bool) :
    decode c (opWord .counter (lineBits pScl pSda scl sda)) =
      if pScl = scl then .error .notAnEdge else .ok (.count pScl pSda sda) := by
  obtain ⟨h3, h2, h1, h0⟩ := lineBits_bits pScl pSda scl sda
  rw [decode_opWord c _ (by decide) (by decide)]
  cases pScl <;> cases scl <;>
    simp [decodeSelector, decodeCount, h3, h2, h1, h0, -BitVec.getLsbD_eq_getElem]

/-! ### Address bytes (R83) -/

theorem decode_addrByteBits (c : Config) (a : BusAddr) (rw : Bool) :
    decode c (opWord .address (addrByteBits a rw)) = .ok
      (if a = c.devAddr then (if rw then .caMatchR a else .caMatchW a)
        else if a = 0 then (if rw then .caBcastR else .caBcastW)
        else .caNomatch a rw) := by
  obtain ⟨ha, hrw⟩ := addrByteBits_fields a rw
  simp only [decode_address, addressInstr, ha, hrw, beq_iff_eq]

/-! ### The other selectors -/

theorem decode_gated_open (c : Config) (cs : CState) (h : c.busActive cs = true) :
    decode c (opWord .gated cs.code) = .error .gateOpen := by
  rw [decode_opWord c _ (by decide) (by decide)]
  simp [decodeSelector, h]

theorem decode_checkAddress (c : Config) :
    decode c (opWord .service PState.checkAddress.code) = .error .byAddressByte := by
  rw [decode_opWord c _ (by decide) (by decide)]; rfl

theorem decode_service_reserved (c : Config) {w : BitVec 3} (h : 6 ≤ w.toNat) :
    decode c (opWord .service w) = .error .reservedPState := by
  have hall : ∀ w : BitVec 3, 6 ≤ w.toNat → decodeService w = .error .reservedPState := by decide
  rw [decode_opWord c _ (by decide) (by decide), decodeSelector, selector_of_byte _ (by decide), hall w h]

theorem decode_sequencer_reserved (c : Config) {w : BitVec 3} (h : 6 ≤ w.toNat) :
    decode c (opWord .sequencer w) = .error .reservedSqPhase := by
  have hall : ∀ w : BitVec 3, 6 ≤ w.toNat → decodeSequencer w = .error .reservedSqPhase := by decide
  rw [decode_opWord c _ (by decide) (by decide), decodeSelector, selector_of_byte _ (by decide), hall w h]

theorem decode_limitPairBits (c : Config) (upN dnN : Bool) :
    decode c (opWord .bothLimits (limitPairBits upN dnN)) =
      if upN && dnN then .ok .bothLimits else .error .notBothLimits := by
  rw [decode_opWord c _ (by decide) (by decide)]
  cases upN <;> cases dnN <;> rfl

theorem decode_haltEntry (c : Config) (k : HaltCause) : decode c (opWord .haltEntry k.code) = .ok (.haltEntry k) := by
  rw [decode_opWord c _ (by decide) (by decide)]
  cases k <;> rfl

theorem decode_haltEntry_zero (c : Config) : decode c (opWord .haltEntry (0 : BitVec 3)) = .error .noHalt := by
  rw [decode_opWord c _ (by decide) (by decide)]; rfl

theorem decode_burstClear (c : Config) (w : BitVec 3) :
    decode c (opWord .burstClear w) =
      if w.getLsbD 2 || w.getLsbD 1 then .error .wrongPhase else .ok (.burstClear (w.getLsbD 0)) := by
  rw [decode_opWord c _ (by decide) (by decide)]
  simp [decodeSelector, BitVec.getLsbD_setWidth, -BitVec.getLsbD_eq_getElem]

theorem decode_takeChanged (c : Config) (w : BitVec 3) :
    decode c (opWord .takeChanged w) =
      if w = sqCtxBits .low true then .ok .takeChanged else .error .wrongPhase := by
  rw [decode_opWord c _ (by decide) (by decide)]
  have h5 : (w.setWidth 8).toNat = 5 ↔ w = sqCtxBits .low true := by decide +revert
  simp only [decodeSelector, h5]

/-! ### MOVE_CMD (R89) -/

/-- The operand and the selector byte of a move's word stand where log 11 puts them. -/
theorem moveWord_fields (m : BitVec 36) (sel : Byte) :
    ((m ++ sel).setWidth 48).extractLsb' 8 36 = m ∧ ((m ++ sel).setWidth 48).extractLsb' 1 7 = sel.extractLsb' 1 7 ∧
      ((m ++ sel).setWidth 48).getLsbD 0 = sel.getLsbD 0 := by
  refine ⟨BitVec.eq_of_getLsbD_eq fun i hi => ?_, BitVec.eq_of_getLsbD_eq fun i hi => ?_, ?_⟩
  · have h48 : 8 + i < 48 := by omega
    simp only [BitVec.getLsbD_extractLsb', BitVec.getLsbD_setWidth, BitVec.getLsbD_append]
    simp [hi, h48]
  · have h8 : 1 + i < 8 := by omega
    have h48 : 1 + i < 48 := by omega
    simp only [BitVec.getLsbD_extractLsb', BitVec.getLsbD_setWidth, BitVec.getLsbD_append]
    simp [h8, h48]
  · simp only [BitVec.getLsbD_setWidth, BitVec.getLsbD_append]
    simp

/-- What a word with any operand and any selector byte selects in the slot of SEQ_START (log 11). -/
theorem decode_moveWord (c : Config) (m : BitVec 36) (sel : Byte) :
    decode c (opWord .moveIssued (m ++ sel)) =
      if sel.extractLsb' 1 7 = 0 then
        (decodeMove m).map (.seqStart (sel.getLsbD 0))
      else .error .wrongPhase := by
  obtain ⟨hm, hsel, htz⟩ := moveWord_fields m sel
  have hfit := Nat.not_le.mpr (Laws.EncodeFits.opWord_fits .moveIssued (m ++ sel) le_rfl)
  rw [decode, if_neg hfit]
  simp only [opWord, hm, hsel, htz, bne_iff_ne, ite_not]
  cases decodeMove m <;> rfl

/-- The fields of MOVE_CMD make up its 36 bits (R89). -/
theorem moveFields_append (m : BitVec 36) :
    BitVec.ofBool (m.getLsbD 35) ++ m.extractLsb' 32 3 ++ m.setWidth 32 = m := by
  refine BitVec.eq_of_getLsbD_eq fun i hi => ?_
  simp only [BitVec.getLsbD_append, BitVec.getLsbD_extractLsb', BitVec.getLsbD_setWidth, BitVec.getLsbD_ofBool]
  by_cases h32 : i < 32
  · simp [h32]
  · by_cases h35 : i - 32 < 3
    · simp [h32, h35, Nat.add_sub_cancel' (Nat.not_lt.mp h32)]
    · obtain rfl : i = 35 := by omega
      simp

/-- A reserved speed makes no command (R92). -/
theorem decodeMove_reserved (dir : Bool) {spd : BitVec 3} (n : Word32) (h : 5 ≤ spd.toNat) :
    decodeMove (BitVec.ofBool dir ++ spd ++ n) = .error .reservedSpeed := by
  have hspd : (BitVec.ofBool dir ++ spd ++ n).extractLsb' 32 3 = spd := by
    refine BitVec.eq_of_getLsbD_eq fun i hi => ?_
    simp only [BitVec.getLsbD_append, BitVec.getLsbD_extractLsb']
    simp [hi]
  have hall : ∀ w : BitVec 3, 5 ≤ w.toNat → Speed.ofCode w = none := by decide
  simp only [decodeMove, hspd, hall spd h]

theorem bits_of_decodeMove {m : BitVec 36} {cmd : MoveCmd} (h : decodeMove m = .ok cmd) : cmd.bits = m := by
  have hcode : ∀ (w : BitVec 3) (v : Speed), Speed.ofCode w = some v → v.code = w := by
    intro w v
    cases v <;> decide +revert
  have hdir : ∀ b : Bool, (Dir.ofCode b).code = BitVec.ofBool b := by decide
  unfold decodeMove at h
  split at h
  next v hv =>
    obtain rfl := Except.ok.inj h
    simp only [MoveCmd.bits, hdir, hcode _ v hv, moveFields_append]
  next => cases h

/-- A selector byte that is only `tz` is the sequencer's value in its idle phase. -/
theorem sqCtxBits_idle_of_extract {sel : Byte} (h : sel.extractLsb' 1 7 = 0) :
    (sqCtxBits .idle (sel.getLsbD 0)).setWidth 8 = sel := by
  have haddr : ∀ tz : Bool, (sqCtxBits .idle tz).setWidth 8 = addrByteBits 0 tz := by decide
  rw [haddr, ← h, addrByteBits_extract]

end Sys2Proof

open Sys2Proof Sys2Proof.Machine

/-- Settles O4: the fields of the address byte are the address and the read/write bit (`addrByteBits_fields`), every
byte is made up of them, and CA_MATCH and CA_BCAST call the same acknowledge. -/
theorem everyAddressByteIsOneCase : Obligations.EveryAddressByteIsOneCase := by
  unfold Obligations.EveryAddressByteIsOneCase
  exact ⟨decode_addrByteBits, fun b => ⟨_, _, (addrByteBits_extract b).symm⟩, fun d s => ⟨rfl, rfl⟩⟩

/-- Settles O5, by the decoder's answers on the words a line sample forms. -/
theorem everyLineSampleIsOneEvent : Obligations.EveryLineSampleIsOneEvent := by
  unfold Obligations.EveryLineSampleIsOneEvent
  exact fun c ss pScl pSda scl sda => ⟨decode_lineBits c pScl pSda scl sda, decode_ssCtxBits c ss pScl pSda scl sda⟩

/-- Settles O6: a slot's decoder has no case for the reserved codes, and stray bits are looked at first. -/
theorem reservedWordsAreRejected : Obligations.ReservedWordsAreRejected := by
  unfold Obligations.ReservedWordsAreRejected
  refine fun c => ⟨fun w => decode_service_reserved c, fun w => decode_sequencer_reserved c,
    fun dir tz spd n h => ?_, fun o h => if_pos h⟩
  have hsel : ((sqCtxBits .idle tz).setWidth 8).extractLsb' 1 7 = 0 := by cases tz <;> rfl
  refine (decode_moveWord c (BitVec.ofBool dir ++ spd ++ n) ((sqCtxBits .idle tz).setWidth 8)).trans ?_
  rw [if_pos hsel, decodeMove_reserved dir n h, Except.map]
end

section
/-! Encoding and decoding are inverse (spec/30_encoding.md R80 to R92): first every well-formed operation, by its
constructor, then every word, by the slot that reads it. -/

namespace Sys2Proof

/-! ### Every well-formed operation -/

/-- The samples SETTLE_WAIT takes are neither a start's nor a stop's (R85). -/
theorem startOrStop_eq_false_iff (pScl pSda sda : Bool) : startOrStop pScl pSda sda = false ↔
    (pScl && pSda && !sda) = false ∧ (pScl && !pSda && sda) = false := by
  decide +revert

theorem decode_encode (c : Config) (i : Instr) (h : i.wellFormed c = true) : decode c (encode i) = .ok i := by
  cases i with
  | limitSample upN dnN => exact decode_monitor c upN dnN
  | takeChanged => exact decode_takeChanged c (sqCtxBits .low true)
  | burstClear tz => cases tz <;> exact decode_burstClear c _
  | busGate cs => exact decode_gate c cs
  | busGated cs => exact decode_gated c cs (by simpa [Instr.wellFormed] using h)
  | startDetect ss => exact decode_ssCtxBits c ss true true true false
  | stopDetect ss => exact decode_ssCtxBits c ss true false true true
  | startCommit pScl pSda sda =>
    exact (decode_ssCtxBits c .settle pScl pSda false sda).trans (by simp)
  | settleWait pScl pSda sda =>
    have hquiet : startOrStop pScl pSda sda = false := by simpa [Instr.wellFormed] using h
    obtain ⟨hstart, hstop⟩ := (startOrStop_eq_false_iff _ _ _).mp hquiet
    refine (decode_ssCtxBits c .settle pScl pSda true sda).trans ?_
    simp only [Bool.and_true, hstart, hstop]
    rfl
  | sclRise pSda sda => exact decode_lineBits c false pSda true sda
  | sclFall pSda sda => exact decode_lineBits c true pSda false sda
  | sclLow pSda sda => exact decode_lineBits c false pSda false sda
  | sclHigh a => exact (decode_lineBits c true a true a).trans (if_pos rfl)
  | count pScl pSda sda => exact (decode_count c pScl pSda (!pScl) sda).trans (if_neg (by simp))
  | caMatchW d =>
    have hd : d = c.devAddr := by simpa [Instr.wellFormed] using h
    exact (decode_addrByteBits c d false).trans (by simp [hd])
  | caMatchR d =>
    have hd : d = c.devAddr := by simpa [Instr.wellFormed] using h
    exact (decode_addrByteBits c d true).trans (by simp [hd])
  | caBcastW =>
    have hd : ¬ 0#7 = c.devAddr := Ne.symm (bne_iff_ne.mp h)
    exact (decode_addrByteBits c 0 false).trans (by simp [hd])
  | caBcastR =>
    have hd : ¬ 0#7 = c.devAddr := Ne.symm (bne_iff_ne.mp h)
    exact (decode_addrByteBits c 0 true).trans (by simp [hd])
  | caNomatch a rw =>
    obtain ⟨hd, h0⟩ : a ≠ c.devAddr ∧ a ≠ 0#7 := by simpa [Instr.wellFormed] using h
    exact (decode_addrByteBits c a rw).trans (by simp [hd, h0])
  | dataRead => exact decode_service c 0 (p := .dataRead) nofun
  | dataReadAck => exact decode_service c 0 (p := .dataReadAck) nofun
  | dataSend => exact decode_service c 0 (p := .dataSend) nofun
  | dataSendAck => exact decode_service c 0 (p := .dataSendAck) nofun
  | done => exact decode_service c 0 (p := .done) nofun
  | seqStart tz cmd => exact decode_moveIssued c tz cmd
  | seqHighCount => exact decode_sequencer c .high false
  | seqHighEnd => exact decode_sequencer c .high true
  | seqLowCount => exact decode_sequencer c .low false
  | seqPulseEnd => exact decode_sequencer c .low true
  | seqIdle tz => exact decode_sequencer c .idle tz
  | bothLimits => exact decode_bothLimits c
  | haltEntry k => exact decode_haltEntry c k
  | reset => exact decode_reset c
  | _ => exact decode_controller c _

/-! ### Every word that decodes -/

/-- The word is the encoding of the operation, which is well formed. -/
def IsEncoding (c : Config) (o : OpWord) (i : Instr) : Prop := i.wellFormed c = true ∧ encode i = o

section
variable {c : Config} {i : Instr}

theorem isEncoding_of_rst {w : BitVec 1} (h : decode c (opWord .rst w) = .ok i) : IsEncoding c (opWord .rst w) i := by
  obtain rfl | rfl := (by decide : ∀ w : BitVec 1, w = 0 ∨ w = 1) w
  · rw [decode_opWord c _ (by decide) (by decide)] at h
    cases h
  · obtain rfl := Except.ok.inj ((decode_reset c).symm.trans h)
    exact ⟨rfl, rfl⟩

theorem isEncoding_of_monitor {w : BitVec 2} (h : decode c (opWord .monitor w) = .ok i) :
    IsEncoding c (opWord .monitor w) i := by
  rw [← limitPairBits_getLsbD w, decode_monitor] at h
  obtain rfl := Except.ok.inj h
  exact ⟨rfl, congrArg (opWord .monitor) (limitPairBits_getLsbD w)⟩

theorem isEncoding_of_gate {w : BitVec 4} (h : decode c (opWord .gate w) = .ok i) :
    IsEncoding c (opWord .gate w) i := by
  rw [← CState.code_ofCode w, decode_gate] at h
  obtain rfl := Except.ok.inj h
  exact ⟨rfl, congrArg (opWord .gate) (CState.code_ofCode w)⟩

theorem isEncoding_of_gated {w : BitVec 4} (h : decode c (opWord .gated w) = .ok i) :
    IsEncoding c (opWord .gated w) i := by
  rw [← CState.code_ofCode w] at h ⊢
  cases ha : c.busActive (CState.ofCode w)
  case true =>
    rw [decode_gated_open c _ ha] at h
    cases h
  case false =>
    rw [decode_gated c _ ha] at h
    obtain rfl := Except.ok.inj h
    exact ⟨by simp [Instr.wellFormed, ha], rfl⟩

theorem isEncoding_of_line {w : BitVec 4} (h : decode c (opWord .line w) = .ok i) :
    IsEncoding c (opWord .line w) i := by
  rw [← lineBits_getLsbD w] at h ⊢
  generalize w.getLsbD 3 = pScl, w.getLsbD 2 = pSda, w.getLsbD 1 = scl, w.getLsbD 0 = sda at h ⊢
  rw [decode_lineBits] at h
  cases pScl <;> cases scl
  case true.true =>
    by_cases hq : pSda = sda
    · obtain rfl := Except.ok.inj ((if_pos hq).symm.trans h)
      exact ⟨rfl, by rw [hq]; rfl⟩
    · cases (if_neg hq).symm.trans h
  all_goals
    obtain rfl := Except.ok.inj h
    exact ⟨rfl, rfl⟩

theorem isEncoding_of_counter {w : BitVec 4} (h : decode c (opWord .counter w) = .ok i) :
    IsEncoding c (opWord .counter w) i := by
  rw [← lineBits_getLsbD w] at h ⊢
  generalize w.getLsbD 3 = pScl, w.getLsbD 2 = pSda, w.getLsbD 1 = scl, w.getLsbD 0 = sda at h ⊢
  rw [decode_count] at h
  split at h
  next => cases h
  next hne =>
    obtain rfl := Except.ok.inj h
    have hscl : (!pScl) = scl := (Bool.eq_not.mpr (Ne.symm hne)).symm
    exact ⟨rfl, by rw [encode, hscl]⟩

theorem isEncoding_of_startStop {w : BitVec 5} (h : decode c (opWord .startStop w) = .ok i) :
    IsEncoding c (opWord .startStop w) i := by
  rw [← ssCtxBits_getLsbD w] at h ⊢
  generalize SsState.ofCode (w.getLsbD 4) = ss, w.getLsbD 3 = pScl, w.getLsbD 2 = pSda, w.getLsbD 1 = scl,
    w.getLsbD 0 = sda at h ⊢
  rw [decode_ssCtxBits] at h
  split at h
  next hs =>
    obtain rfl := Except.ok.inj h
    simp only [Bool.and_eq_true, Bool.not_eq_true'] at hs
    obtain ⟨⟨⟨rfl, rfl⟩, rfl⟩, rfl⟩ := hs
    exact ⟨rfl, rfl⟩
  next hs =>
    split at h
    next hp =>
      obtain rfl := Except.ok.inj h
      simp only [Bool.and_eq_true, Bool.not_eq_true'] at hp
      obtain ⟨⟨⟨rfl, rfl⟩, rfl⟩, rfl⟩ := hp
      exact ⟨rfl, rfl⟩
    next hp =>
      split at h
      next hss =>
        subst hss
        split at h
        next hscl =>
          obtain rfl := Except.ok.inj h
          subst hscl
          have hquiet : startOrStop pScl pSda sda = false :=
            (startOrStop_eq_false_iff _ _ _).mpr ⟨by simpa using hs, by simpa using hp⟩
          exact ⟨by simp [Instr.wellFormed, hquiet], rfl⟩
        next hscl =>
          obtain rfl := Except.ok.inj h
          exact ⟨rfl, by rw [Bool.eq_false_iff.mpr hscl]; rfl⟩
      next => cases h

theorem isEncoding_of_address {w : Byte} (h : decode c (opWord .address w) = .ok i) :
    IsEncoding c (opWord .address w) i := by
  rw [← addrByteBits_extract w] at h ⊢
  generalize w.extractLsb' 1 7 = a, w.getLsbD 0 = rw at h ⊢
  rw [decode_addrByteBits] at h
  obtain rfl := Except.ok.inj h
  split
  next hd => cases rw <;> exact ⟨by simpa [Instr.wellFormed] using hd, rfl⟩
  next hd =>
    split
    next h0 =>
      subst h0
      cases rw <;> exact ⟨bne_iff_ne.mpr (Ne.symm hd), rfl⟩
    next h0 => exact ⟨by simp_all [Instr.wellFormed], rfl⟩

theorem isEncoding_of_service {w : BitVec 3} (h : decode c (opWord .service w) = .ok i) :
    IsEncoding c (opWord .service w) i := by
  by_cases hw : w.toNat < 6
  case neg =>
    rw [decode_service_reserved c (Nat.not_lt.mp hw)] at h
    cases h
  case pos =>
    obtain ⟨p, rfl⟩ := exists_pstate_of_lt hw
    by_cases hp : p = .checkAddress
    · rw [hp, decode_checkAddress] at h
      cases h
    · rw [decode_service c 0 hp] at h
      obtain rfl := Except.ok.inj h
      cases p with
      | checkAddress => exact absurd rfl hp
      | _ => exact ⟨rfl, rfl⟩

theorem isEncoding_of_bothLimits {w : BitVec 2} (h : decode c (opWord .bothLimits w) = .ok i) :
    IsEncoding c (opWord .bothLimits w) i := by
  rw [← limitPairBits_getLsbD w] at h ⊢
  rw [decode_limitPairBits] at h
  split at h
  next hb =>
    obtain rfl := Except.ok.inj h
    obtain ⟨hup, hdn⟩ := Bool.and_eq_true_iff.mp hb
    exact ⟨rfl, by rw [hup, hdn]; rfl⟩
  next => cases h

theorem isEncoding_of_controller {w : BitVec 4} (h : decode c (opWord .controller w) = .ok i) :
    IsEncoding c (opWord .controller w) i := by
  rw [← CState.code_ofCode w] at h ⊢
  rw [decode_controller] at h
  obtain rfl := Except.ok.inj h
  cases CState.ofCode w <;> exact ⟨rfl, rfl⟩

theorem isEncoding_of_haltEntry {w : BitVec 3} (h : decode c (opWord .haltEntry w) = .ok i) :
    IsEncoding c (opWord .haltEntry w) i := by
  by_cases h0 : w = 0
  · rw [h0, decode_haltEntry_zero] at h
    cases h
  · obtain ⟨k, rfl⟩ := exists_haltCause_of_ne h0
    rw [decode_haltEntry] at h
    obtain rfl := Except.ok.inj h
    exact ⟨rfl, rfl⟩

theorem isEncoding_of_sequencer {w : BitVec 3} (h : decode c (opWord .sequencer w) = .ok i) :
    IsEncoding c (opWord .sequencer w) i := by
  by_cases hw : w.toNat < 6
  case neg =>
    rw [decode_sequencer_reserved c (Nat.not_lt.mp hw)] at h
    cases h
  case pos =>
    obtain ⟨ph, tz, rfl⟩ := exists_sqCtx_of_lt hw
    rw [decode_sequencer] at h
    obtain rfl := Except.ok.inj h
    cases ph <;> cases tz <;> exact ⟨rfl, rfl⟩

theorem isEncoding_of_burstClear {w : BitVec 3} (h : decode c (opWord .burstClear w) = .ok i) :
    IsEncoding c (opWord .burstClear w) i := by
  have hidle : ∀ w : BitVec 3, (w.getLsbD 2 || w.getLsbD 1) = false → sqCtxBits .idle (w.getLsbD 0) = w := by
    decide
  rw [decode_burstClear] at h
  split at h
  next => cases h
  next hw =>
    obtain rfl := Except.ok.inj h
    exact ⟨rfl, congrArg (opWord .burstClear) (hidle w (Bool.eq_false_iff.mpr hw))⟩

theorem isEncoding_of_takeChanged {w : BitVec 3} (h : decode c (opWord .takeChanged w) = .ok i) :
    IsEncoding c (opWord .takeChanged w) i := by
  rw [decode_takeChanged] at h
  split at h
  next hw =>
    obtain rfl := Except.ok.inj h
    exact ⟨rfl, by rw [hw]; rfl⟩
  next => cases h

theorem isEncoding_of_moveIssued {w : BitVec 44} (h : decode c (opWord .moveIssued w) = .ok i) :
    IsEncoding c (opWord .moveIssued w) i := by
  obtain ⟨m, sel, rfl⟩ : ∃ (m : BitVec 36) (sel : Byte), w = m ++ sel := by
    refine ⟨w.extractLsb' 8 36, w.extractLsb' 0 8, BitVec.eq_of_getLsbD_eq fun i hi => ?_⟩
    simp only [BitVec.getLsbD_append, BitVec.getLsbD_extractLsb']
    by_cases h8 : i < 8
    · simp [h8]
    · have h36 : i - 8 < 36 := by omega
      simp [h8, h36, Nat.add_sub_cancel' (Nat.not_lt.mp h8)]
  rw [decode_moveWord] at h
  split at h
  case isFalse => cases h
  case isTrue hsel =>
    cases hm : decodeMove m with
    | error e =>
      rw [hm] at h
      cases h
    | ok cmd =>
      rw [hm] at h
      obtain rfl := Except.ok.inj h
      refine ⟨rfl, ?_⟩
      rw [encode, seqStartBits, bits_of_decodeMove hm, sqCtxBits_idle_of_extract hsel]
      rfl

/-- Whatever slot reads it, a word that decodes has no stray bit and is the encoding of its operation. -/
theorem isEncoding_of_decode {o : OpWord} (h : decode c o = .ok i) : IsEncoding c o i := by
  have hfit : o.bits.toNat < 2 ^ o.slot.wordWidth := by
    by_contra hstray
    rw [decode, if_pos (Nat.not_lt.mp hstray)] at h
    cases h
  obtain ⟨w, hw⟩ := exists_opWord hfit
  obtain ⟨slot, bits⟩ := o
  rw [hw] at h ⊢
  cases slot with
  | rst => exact isEncoding_of_rst h
  | monitor => exact isEncoding_of_monitor h
  | gate => exact isEncoding_of_gate h
  | gated => exact isEncoding_of_gated h
  | line => exact isEncoding_of_line h
  | counter => exact isEncoding_of_counter h
  | startStop => exact isEncoding_of_startStop h
  | address => exact isEncoding_of_address h
  | service => exact isEncoding_of_service h
  | bothLimits => exact isEncoding_of_bothLimits h
  | controller => exact isEncoding_of_controller h
  | haltEntry => exact isEncoding_of_haltEntry h
  | moveIssued => exact isEncoding_of_moveIssued h
  | sequencer => exact isEncoding_of_sequencer h
  | burstClear => exact isEncoding_of_burstClear h
  | takeChanged => exact isEncoding_of_takeChanged h
end

end Sys2Proof

open Sys2Proof Sys2Proof.Machine

/-- Settles O2, by the constructors of the operation. -/
theorem decodeOfEncode : Obligations.DecodeOfEncode := by
  unfold Obligations.DecodeOfEncode
  exact decode_encode

/-- Settles O3, by the slots: a word is made up of the fields of its format, and the decoder keeps every field. -/
theorem encodeOfDecode : Obligations.EncodeOfDecode := by
  unfold Obligations.EncodeOfDecode
  exact fun c o i h => isEncoding_of_decode h
end

section
/-! What a cycle makes of the words it selects, and the CHECK_ADDRESS service over a cycle (spec/42_bus_protocol.md R142
to R144). -/

namespace Sys2Proof.Machine

/-- Words that decode select well-formed operations. -/
theorem exists_wellFormed_of_decodes {c : Config} {os : List OpWord} {is : List Instr}
    (h : List.Forall₂ (Decodes c) os is) : ∀ o ∈ os, ∃ i, decode c o = .ok i ∧ i.wellFormed c = true := by
  induction h with
  | nil => nofun
  | cons ho _ ih => exact List.forall_mem_cons.mpr ⟨⟨_, ho, (isEncoding_of_decode ho).1⟩, ih⟩

/-- A pending event in a state that is not settling comes with no start, stop or commit, and is serviced in an open
gate (R129, R141). -/
theorem service_alone {s : State} (ho : s.ovf = true) (hb : s.bbEn = true) (hss : s.ss = .idle) :
    Reference.start s = false ∧ Reference.stop s = false ∧ Reference.commit s = false ∧
      Reference.service s = true := by
  simp [Reference.start, Reference.stop, Reference.commit, Reference.service, sclIn_of_ovf ho, ho, hb, hss]

/-- The service of an address byte that does not match, with no start, stop or commit in its cycle (R144). -/
theorem activeNext_bus_of_not_addressed {s : State} (ha : Reference.active s = true)
    (hs : Reference.start s = false) (ht : Reference.stop s = false) (hc : Reference.commit s = false)
    (hv : Reference.service s = true) (hp : s.pstate = .checkAddress) (hr : Reference.addressed s = false) :
    (Reference.activeNext s).bus = { s.bus with
      pScl := s.sclIn, pSda := s.sdaIn, bbEn := false, ovf := false
      dout := if s.sclIn then s.dout else s.shreg.getLsbD 7, oe := false } := by
  simp [State.bus, Reference.activeNext, Reference.ss, Reference.pstate, Reference.afterService, Reference.bbEn,
    Reference.ovf, Reference.cnt, Reference.dout, Reference.oe, Reference.sbr, Reference.shreg, ha, hs, ht, hc, hv,
    hp, hr]

/-- The outputs to the bus are functions of the bus half. -/
theorem sclDl_of_bus {t : State} {v : BusView} (h : t.bus = v) : t.sclDl = v.ovf := congrArg BusView.ovf h

theorem sdaDl_of_bus {t : State} {v : BusView} (h : t.bus = v) : t.sdaDl = (v.oe && !v.dout) := by
  subst h; rfl

end Sys2Proof.Machine

open Sys2Proof Sys2Proof.Machine

/-- Settles O1: each word is the encoding of its operation, which decodes back (`decode_encode`). -/
theorem writtenOutWordsDecode : Obligations.WrittenOutWordsDecode := by
  unfold Obligations.WrittenOutWordsDecode
  exact ⟨decode_encode _ (.startDetect .idle) rfl, decode_encode _ (.stopDetect .settle) rfl,
    decode_encode _ (.sclRise true false) rfl, decode_encode _ (.caMatchR 0x21) rfl,
    decode_encode _ (.caNomatch 0x22 false) rfl, decode_encode _ .dataReadAck rfl, decode_encode _ .seqPulseEnd rfl,
    decode_encode _ .lTarget rfl, decode_encode _ (.seqStart true { dir := .up, spd := .cruise, n := 42 }) rfl⟩

/-- Settles O7: every selected word decodes (`selections_decode`, `sequencerSelection_decodes`), and what a word decodes
to is well formed (`isEncoding_of_decode`). -/
theorem selectedWordsDecode : Obligations.SelectedWordsDecode := by
  unfold Obligations.SelectedWordsDecode
  exact fun s => ⟨exists_wellFormed_of_decodes (selections_decode (beginCycle s)),
    fun c => exists_wellFormed_of_decodes (sequencerSelection_decodes (beginCycle s) c)⟩

/-- Settles O9: every operation answers a next state, with the configuration it found (`exec_keepsCfg`). -/
theorem everyOperationCompletes : Obligations.EveryOperationCompletes := by
  unfold Obligations.EveryOperationCompletes
  intro i s
  obtain ⟨t, ht, -⟩ := exec_keepsCfg i s
  exact ⟨t, ht⟩

/-- Settles O28: the service acts alone in its cycle (`service_alone`), with SCL low, so the latch follows the shift
register it leaves. -/
theorem addressServiceOverACycle : Obligations.AddressServiceOverACycle := by
  unfold Obligations.AddressServiceOverACycle
  intro s hr ha ho hb hss hp
  obtain ⟨hs, ht, hc, hv⟩ := service_alone ho hb hss
  refine ⟨_, step_of_no_reset hr, ?_⟩
  split
  next hmatch =>
    have hbus := activeNext_bus_of_addressed ha hs ht hc hv hp (by simpa [Reference.addressed] using hmatch)
    rw [sclIn_of_ovf ho] at hbus
    exact ⟨congrArg BusView.ovf hbus, sclDl_of_bus hbus, congrArg BusView.sbr hbus,
      (congrArg BusView.ss hbus).trans hss, congrArg BusView.shreg hbus, congrArg BusView.oe hbus,
      congrArg BusView.cnt hbus, (congrArg BusView.bbEn hbus).trans hb, congrArg BusView.dout hbus,
      sdaDl_of_bus hbus, congrArg BusView.pstate hbus⟩
  next hmatch =>
    have hbus := activeNext_bus_of_not_addressed ha hs ht hc hv hp (by simpa [Reference.addressed] using hmatch)
    exact ⟨congrArg BusView.ovf hbus, sclDl_of_bus hbus, congrArg BusView.sbr hbus,
      (congrArg BusView.ss hbus).trans hss, congrArg BusView.bbEn hbus, congrArg BusView.oe hbus,
      sdaDl_of_bus hbus, (congrArg BusView.pstate hbus).trans hp, congrArg BusView.shreg hbus,
      congrArg BusView.cnt hbus⟩
end

section
/-! A write transaction (spec/30_encoding.md R95, spec/42_bus_protocol.md R140) to the device, to all, and to another
address: the bits the master sends, and what each byte and each acknowledge bit leave of the bus engine. -/

namespace Sys2Proof.Machine

/-! ### The drives of a write -/

/-- The bits of a write transaction: the master releases SDA for both acknowledge bits. -/
def writeBits (a : BusAddr) (b : Byte) : List Bool :=
  byteBits (addrByteBits a false) ++ [true] ++ byteBits b ++ [true]

theorem scriptDrives_write (up dn : Bool) (a : BusAddr) (b : Byte) :
    masterCycle up dn true true :: scriptDrives up dn false (scriptWrite a b) =
      transaction up dn (writeBits a b) := by
  have hitems : scriptDrives up dn false (scriptWrite a b) =
      itemDrives up dn false .start ++ (itemDrives up dn true (.write (addrByteBits a false)) ++
        (itemDrives up dn true (.write b) ++ (itemDrives up dn true .stop ++ []))) := rfl
  have hstop : itemDrives up dn true .stop = lows up dn false ++ (highs up dn false ++ highs up dn true) := rfl
  rw [hitems, itemDrives_write, itemDrives_write, hstop]
  simp [transaction, untilBit, opening, writeBits]

/-- The bits of a write around its first acknowledge bit. -/
theorem writeBits_eq_address (a : BusAddr) (b : Byte) :
    writeBits a b = byteBits (addrByteBits a false) ++ true :: (byteBits b ++ [true]) := by
  simp [writeBits]

/-- The bits of a write around its second acknowledge bit. -/
theorem writeBits_eq_data (a : BusAddr) (b : Byte) :
    writeBits a b = (byteBits (addrByteBits a false) ++ [true] ++ byteBits b) ++ true :: [] := rfl

/-! ### The services of a write -/

section
variable (c : Config) (n : EdgeCount) (x r : Byte) (sda dout oe b : Bool)

/-- The byte to receive (R145). -/
theorem busCycle_dataRead : busCycle c (countingView false sda .dataRead true n x dout oe r) false b =
    countingView false (sdaLine oe dout b) .dataReadAck false 0 x (x.getLsbD 7) false r := rfl

/-- The received byte goes into SBR and is acknowledged (R146). -/
theorem busCycle_dataReadAck : busCycle c (countingView false sda .dataReadAck true n x dout oe r) false b =
    countingView false (sdaLine oe dout b) .done false 14 0 false true x := by
  have hshreg : (busCycle c (countingView false sda .dataReadAck true n x dout oe r) false b).shreg = 0 := rfl
  have hlatch : busCycle c (countingView false sda .dataReadAck true n x dout oe r) false b =
      countingView false (sdaLine oe dout b) .done false 14 0
        ((busCycle c (countingView false sda .dataReadAck true n x dout oe r) false b).shreg.getLsbD 7) true x := rfl
  rw [hlatch, hshreg]
  rfl

/-- An address byte that does not match (R144). -/
theorem busCycle_noMatch (hd : x.extractLsb' 1 7 ≠ c.devAddr) (h0 : x.extractLsb' 1 7 ≠ 0) :
    busCycle c (countingView false sda .checkAddress true n x dout oe r) false b =
      releasedView false (sdaLine oe dout b) .idle .checkAddress n x (x.getLsbD 7) r := by
  have hr : (x.extractLsb' 1 7 == c.devAddr || x.extractLsb' 1 7 == 0) = false := by
    rw [beq_eq_false_iff_ne.mpr hd, beq_eq_false_iff_ne.mpr h0]
    rfl
  exact activeNext_bus_of_not_addressed
    (s := ofBus c (countingView false sda .checkAddress true n x dout oe r) false b) rfl rfl rfl rfl rfl rfl hr
end

/-! ### A write that is acknowledged -/

section
variable {c : Config} {v : BusView} {up dn : Bool} {bs : List Bool} {p : PState} {x r : Byte} {a : BusAddr}

/-- A byte received with the output off replaces the shift register and brings the event. -/
theorem afterBits_received {P : BusView → Prop} (w : Byte) (h : AfterBits c v up dn bs (·.Low p 0 x false r))
    (hserve : ∀ sda dout b', P (busCycle c (countingView false sda p true 0 w dout false r) false b')) :
    AfterBits c v up dn (bs ++ byteBits w) P := by
  refine afterBits_byte ((byteBits w).take 7) (w.getLsbD 0) h rfl fun sda dout b' => ?_
  have hbyte : ((byteBits w).take 7 ++ [w.getLsbD 0]).foldl (clockBit false) x = w := received_byteBits w x
  rw [hbyte]
  exact hserve sda dout b'

/-- The address byte of a write, to the device or to all (R142). -/
theorem afterBits_writeAddress (ha : a = c.devAddr ∨ a = 0)
    (h : AfterBits c v up dn [] (·.Low .checkAddress 0 x false r)) :
    AfterBits c v up dn (byteBits (addrByteBits a false)) (·.Low .dataRead 14 0 true r) := by
  obtain ⟨haddr, hwrite⟩ := addrByteBits_fields a false
  refine afterBits_received (addrByteBits a false) h fun sda dout b' => ?_
  rw [busCycle_checkAddress _ _ _ _ _ _ _ _ (by rwa [haddr]), hwrite]
  exact ⟨_, rfl⟩

/-- The acknowledge bit of a write's address byte leaves SDA to the master (R145). -/
theorem afterBits_ackWriteAddress (h : AfterBits c v up dn bs (·.Low .dataRead 14 x true r)) :
    ∃ y, AfterBits c v up dn (bs ++ [true]) (·.Low .dataReadAck 0 y false r) :=
  ⟨_, afterBits_event true h fun _ _ => ⟨_, busCycle_dataRead ..⟩⟩

/-- The data byte of a write is stored and acknowledged (R146). -/
theorem afterBits_stored (w : Byte) (h : AfterBits c v up dn bs (·.Low .dataReadAck 0 x false r)) :
    AfterBits c v up dn (bs ++ byteBits w) (·.Low .done 14 0 true w) :=
  afterBits_received w h fun _ _ _ => ⟨_, busCycle_dataReadAck ..⟩

/-- The acknowledge bit of the data byte ends the transfer (R149). -/
theorem afterBits_ackData (h : AfterBits c v up dn bs (·.Low .done 14 x true r)) :
    AfterBits c v up dn (bs ++ [true]) fun w =>
      ∃ sda y dout, w = releasedView false sda .idle .done 0 y dout r :=
  afterBits_event true h fun _ _ => ⟨_, _, _, busCycle_done ..⟩
end

section
variable {s : State} {a : BusAddr} {b : Byte} {up dn : Bool}

/-- A write transaction up to the acknowledge of its address byte. -/
theorem afterBits_writeAddressed (hidle : s.busIdle) (ha : a = s.cfg.devAddr ∨ a = 0) :
    AfterBits s.cfg s.bus up dn (byteBits (addrByteBits a false)) (·.Low .dataRead 14 0 true s.sbr) := by
  rw [bus_of_busIdle hidle]
  exact afterBits_writeAddress ha (afterBits_nil s.dout)

/-- A write transaction up to the acknowledge of its data byte. -/
theorem afterBits_written (hidle : s.busIdle) (ha : a = s.cfg.devAddr ∨ a = 0) :
    AfterBits s.cfg s.bus up dn (byteBits (addrByteBits a false) ++ [true] ++ byteBits b)
      (·.Low .done 14 0 true b) := by
  obtain ⟨y, hack⟩ := afterBits_ackWriteAddress (afterBits_writeAddressed (up := up) (dn := dn) hidle ha)
  exact afterBits_stored b hack

/-- The address byte is acknowledged. -/
theorem write_address_acknowledged (h : Plays s up dn (writeBits a b)) (hidle : s.busIdle)
    (ha : a = s.cfg.devAddr ∨ a = 0) : ∃ u, after 39 s = some u ∧ u.sclIn = true ∧ u.sdaIn = false := by
  rw [writeBits_eq_address] at h
  exact lines_at_bit h (afterBits_writeAddressed hidle ha)

/-- The data byte is acknowledged. -/
theorem write_data_acknowledged (h : Plays s up dn (writeBits a b)) (hidle : s.busIdle)
    (ha : a = s.cfg.devAddr ∨ a = 0) : ∃ u, after 75 s = some u ∧ u.sclIn = true ∧ u.sdaIn = false := by
  rw [writeBits_eq_data] at h
  exact lines_at_bit h (afterBits_written hidle ha)

/-- The transaction ends with the byte in SBR and the block off the bus. -/
theorem write_ends (h : Plays s up dn (writeBits a b)) (hidle : s.busIdle) (ha : a = s.cfg.devAddr ∨ a = 0) :
    ∃ u, after 83 s = some u ∧ u.sbr = b ∧ u.pstate = .done ∧ u.bbEn = false ∧ u.sclDl = false ∧ u.sdaDl = false := by
  obtain ⟨sda, y, dout, hdone⟩ := afterBits_ackData (afterBits_written (up := up) (dn := dn) (b := b) hidle ha) false
  obtain ⟨u, hu, hbus⟩ := after_transaction h
  rw [writeBits, hdone, busRun_stop] at hbus
  exact ⟨u, hu, congrArg BusView.sbr hbus, congrArg BusView.pstate hbus, congrArg BusView.bbEn hbus,
    sclDl_of_bus hbus, sdaDl_of_bus hbus⟩
end

end Sys2Proof.Machine

open Sys2Proof Sys2Proof.Machine

/-- Settles O32: the master's drives are a transaction of 18 bits (`scriptDrives_write`), on which the bus engine runs
alone; its state between the bits gives both acknowledge bits (`lines_at_bit`) and the end. -/
theorem writeTransactionStoresTheByte : Obligations.WriteTransactionStoresTheByte := by
  unfold Obligations.WriteTransactionStoresTheByte
  intro s a b up dn hidle hgate ha hdrive hscript
  have hplays : Plays s up dn (writeBits a b) :=
    { drives := by rw [hdrive, hscript, scriptDrives_write], gate := hgate }
  exact ⟨write_address_acknowledged hplays hidle ha, write_data_acknowledged hplays hidle ha,
    write_ends hplays hidle ha⟩
end

section
/-! A write transaction to another address (spec/42_bus_protocol.md R144): in every cycle the bus engine keeps its
output off and SBR as it was. -/

namespace Sys2Proof.Machine

/-! ### What holds throughout a run -/

/-- The bus engine has the property before and after each cycle of the given drives. -/
def Throughout (c : Config) (P : BusView → Prop) : BusView → List Drive → Prop
  | v, [] => P v
  | v, d :: ds => P v ∧ Throughout c P (busCycle c v d.scl d.sda) ds

theorem throughout_append {c : Config} {P : BusView → Prop} {v : BusView} {ds es : List Drive}
    (hd : Throughout c P v ds) (he : Throughout c P (busRun c v ds) es) : Throughout c P v (ds ++ es) := by
  induction ds generalizing v with
  | nil => exact he
  | cons d ds ih =>
    obtain ⟨hv, hrest⟩ := hd
    exact ⟨hv, ih hrest he⟩

theorem busRun_take_of_throughout {c : Config} {P : BusView → Prop} {v : BusView} {ds : List Drive}
    (h : Throughout c P v ds) (k : Nat) : P (busRun c v (ds.take k)) := by
  induction ds generalizing v k with
  | nil => rwa [List.take_nil]
  | cons d ds ih =>
    obtain ⟨hv, hrest⟩ := h
    cases k with
    | zero => exact hv
    | succ k => exact ih hrest k

/-! ### A bus engine that is not addressed -/

/-- The output is off and SBR holds `r`. -/
def BusView.Quiet (r : Byte) (v : BusView) : Prop := v.oe = false ∧ v.sbr = r

/-- The engine between two bits, deaf until the next start (R144). -/
def BusView.Deaf (r : Byte) (v : BusView) : Prop :=
  ∃ sda n x dout, v = releasedView false sda .idle .checkAddress n x dout r

theorem quiet_of_low {v : BusView} {p : PState} {n : EdgeCount} {x r : Byte} (h : v.Low p n x false r) :
    v.Quiet r := by
  obtain ⟨sda, rfl⟩ := h
  exact ⟨rfl, rfl⟩

theorem quiet_of_deaf {v : BusView} {r : Byte} (h : v.Deaf r) : v.Quiet r := by
  obtain ⟨sda, n, x, dout, rfl⟩ := h
  exact ⟨rfl, rfl⟩

section
variable (c : Config) (p : PState) (n : EdgeCount) (x r : Byte) (sda dout b : Bool)

theorem busCycle_idle_fall : busCycle c (releasedView true sda .idle p n x dout r) false b =
    releasedView false b .idle p n x (x.getLsbD 7) r := by
  cases b <;> rfl

theorem busCycle_idle_low : busCycle c (releasedView false sda .idle p n x dout r) false b =
    releasedView false b .idle p n x (x.getLsbD 7) r := by
  cases b <;> rfl
end

/-- A bit clocked while the engine is deaf changes nothing. -/
theorem deaf_clocked {v : BusView} {r : Byte} (c : Config) (up dn b b' : Bool) (h : v.Deaf r) :
    (busRun c v (highs up dn b ++ lows up dn b')).Deaf r ∧
      Throughout c (BusView.Quiet r) v (highs up dn b ++ lows up dn b') := by
  obtain ⟨sda, n, x, dout, rfl⟩ := h
  simp only [busRun, Throughout, highs, lows, masterCycle, List.cons_append, List.nil_append, List.foldl_cons,
    List.foldl_nil, busCycle_idle_rise, busCycle_idle, busCycle_idle_fall, busCycle_idle_low]
  exact ⟨⟨_, _, _, _, rfl⟩, ⟨rfl, rfl⟩, ⟨rfl, rfl⟩, ⟨rfl, rfl⟩, ⟨rfl, rfl⟩, ⟨rfl, rfl⟩⟩

/-- While the engine receives its address byte each bit leaves it quiet, if the last cycle, which may serve the event,
does. -/
theorem quiet_clocked {v : BusView} {n : EdgeCount} {x r : Byte} (c : Config) (up dn b b' : Bool)
    (h : v.Low .checkAddress n x false r) (hn : n.toNat ≤ 14)
    (hend : (busRun c v (highs up dn b ++ lows up dn b')).Quiet r) :
    Throughout c (BusView.Quiet r) v (highs up dn b ++ lows up dn b') := by
  obtain ⟨sda, rfl⟩ := h
  have h0 : (n == 15) = false := beq_eq_false_iff_ne.mpr (by bv_omega)
  simp only [busRun, Throughout, highs, lows, masterCycle, List.cons_append, List.nil_append, List.foldl_cons,
    List.foldl_nil, busCycle_rise, busCycle_high, busCycle_fall, h0, Bool.false_eq_true, if_false] at hend ⊢
  exact ⟨⟨rfl, rfl⟩, ⟨rfl, rfl⟩, ⟨rfl, rfl⟩, ⟨rfl, rfl⟩, hend⟩

/-! ### A write that is ignored -/

/-- Up to the bit after `bs`, whatever it is, the engine is quiet. -/
def QuietUntil (c : Config) (v : BusView) (up dn : Bool) (r : Byte) (bs : List Bool) : Prop :=
  ∀ b, Throughout c (BusView.Quiet r) v (untilBit up dn bs b)

section
variable {c : Config} {v : BusView} {up dn : Bool} {bs : List Bool} {x r : Byte} {a : BusAddr}

/-- The start leaves the engine quiet. -/
theorem quietUntil_nil (p : PState) (n : EdgeCount) (dout : Bool) :
    QuietUntil c (releasedView true true .idle p n x dout r) up dn r [] := by
  intro b
  simp only [Throughout, untilBit, opening, itemDrives, lows, masterCycle, List.flatMap_nil, List.append_nil,
    List.nil_append, List.cons_append, Bool.false_eq_true, if_false, busCycle_idle, busCycle_start, busCycle_settle,
    busCycle_commit, busCycle_low]
  simp [BusView.Quiet, releasedView, countingView]

theorem quietUntil_concat {b : Bool} (h : QuietUntil c v up dn r bs)
    (hbit : ∀ b', Throughout c (BusView.Quiet r) (busRun c v (untilBit up dn bs b)) (highs up dn b ++ lows up dn b')) :
    QuietUntil c v up dn r (bs ++ [b]) := fun b' => by
  rw [untilBit_concat]
  exact throughout_append (h b) (hbit b')

/-- A bit of the address byte. -/
theorem quietUntil_address_bit {b : Bool} {n : EdgeCount} (h : QuietUntil c v up dn r bs)
    (hlow : AfterBits c v up dn bs (·.Low .checkAddress n x false r)) (hn : n.toNat ≤ 14)
    (hend : AfterBits c v up dn (bs ++ [b]) (BusView.Quiet r)) : QuietUntil c v up dn r (bs ++ [b]) := by
  refine quietUntil_concat h fun b' => quiet_clocked c up dn b b' (hlow b) hn ?_
  have hquiet := hend b'
  rwa [untilBit_concat, busRun_append] at hquiet

/-- The bits of the address byte before its last. -/
theorem quietUntil_address {cs : List Bool} (hnil : QuietUntil c v up dn r [])
    (h : AfterBits c v up dn [] (·.Low .checkAddress 0 x false r)) (hlen : cs.length ≤ 7) :
    QuietUntil c v up dn r cs := by
  induction cs using List.reverseRecOn with
  | nil => exact hnil
  | append_singleton cs b ih =>
    have hend := afterBits_append (cs ++ [b]) h hlen
    rw [List.length_append, List.length_singleton] at hlen
    have hn : (BitVec.ofNat 4 (2 * cs.length)).toNat ≤ 14 := by
      rw [BitVec.toNat_ofNat]
      omega
    exact quietUntil_address_bit (ih (by omega)) (afterBits_append cs h (by omega)) hn fun b' => quiet_of_low (hend b')

/-- An address byte that is not the block's leaves it deaf (R144). -/
theorem afterBits_noMatch (hd : a ≠ c.devAddr) (h0 : a ≠ 0)
    (h : AfterBits c v up dn [] (·.Low .checkAddress 0 x false r)) :
    AfterBits c v up dn (byteBits (addrByteBits a false)) (BusView.Deaf r) := by
  obtain ⟨haddr, -⟩ := addrByteBits_fields a false
  refine afterBits_received (bs := []) (addrByteBits a false) h fun sda dout b' => ?_
  rw [busCycle_noMatch _ _ _ _ _ _ _ _ (by rwa [haddr]) (by rwa [haddr])]
  exact ⟨_, _, _, _, rfl⟩

/-- Once deaf, the engine stays so for any further bits, and quiet. -/
theorem deaf_and_quietUntil_append (cs : List Bool) (h : AfterBits c v up dn bs (BusView.Deaf r))
    (hq : QuietUntil c v up dn r bs) :
    AfterBits c v up dn (bs ++ cs) (BusView.Deaf r) ∧ QuietUntil c v up dn r (bs ++ cs) := by
  induction cs using List.reverseRecOn with
  | nil => simpa using ⟨h, hq⟩
  | append_singleton cs b ih =>
    obtain ⟨hdeaf, hquiet⟩ := ih
    rw [← List.append_assoc]
    refine ⟨fun b' => ?_, quietUntil_concat hquiet fun b' => (deaf_clocked c up dn b b' (hdeaf b)).2⟩
    rw [untilBit_concat, busRun_append]
    exact (deaf_clocked c up dn b b' (hdeaf b)).1

/-- The stop leaves a deaf engine quiet, with counting off. -/
theorem quiet_stop (h : v.Deaf r) : Throughout c (BusView.Quiet r) v (highs up dn false ++ highs up dn true) ∧
    (busRun c v (highs up dn false ++ highs up dn true)).bbEn = false ∧
    (busRun c v (highs up dn false ++ highs up dn true)).ovf = false := by
  obtain ⟨sda, n, x, dout, rfl⟩ := h
  rw [busRun_stop]
  simp only [Throughout, highs, masterCycle, List.cons_append, List.nil_append, busCycle_idle_rise, busCycle_idle,
    busCycle_stop]
  exact ⟨⟨⟨rfl, rfl⟩, ⟨rfl, rfl⟩, ⟨rfl, rfl⟩, ⟨rfl, rfl⟩, ⟨rfl, rfl⟩⟩, rfl, rfl⟩
end

/-! ### The ignored write -/

/-- In the sampled half of each bit of a transaction the engine is where the bits before it leave it. -/
theorem state_at_bit {s : State} {up dn b : Bool} {bs cs : List Bool} {P : BusView → Prop}
    (h : Plays s up dn (bs ++ b :: cs)) (hP : AfterBits s.cfg s.bus up dn bs P) :
    ∃ u, after (7 + 4 * bs.length) s = some u ∧ P u.bus ∧ u.drive = masterCycle up dn true b := by
  have hpre : untilBit up dn bs b ++ [masterCycle up dn true b] <+: s.drive :: s.script :=
    h.drives ▸ untilBit_prefix up dn b bs cs
  have hlen : (untilBit up dn bs b).length ≤ (transaction up dn (bs ++ b :: cs)).length :=
    ((List.prefix_append _ _).trans (untilBit_prefix up dn b bs cs)).length_le
  obtain ⟨u, hu, hbus, hdrive⟩ :=
    after_bus ((List.prefix_append _ _).trans hpre) h.gate hlen (rst_of_mem_untilBit up dn b bs)
  rw [length_untilBit] at hu
  exact ⟨u, hu, hbus ▸ hP b, hdrive _ hpre⟩

/-- What holds of the bus engine throughout the drives of a transaction holds of the states of the run. -/
theorem bus_of_throughout {s : State} {up dn : Bool} {bits : List Bool} {P : BusView → Prop} {k : Nat}
    (h : Plays s up dn bits) (hP : Throughout s.cfg P s.bus (transaction up dn bits))
    (hk : k ≤ (transaction up dn bits).length) : ∃ u, after k s = some u ∧ P u.bus := by
  have hlen : ((transaction up dn bits).take k).length = k := List.length_take_of_le hk
  obtain ⟨u, hu, hbus, -⟩ := after_bus (h.drives ▸ List.take_prefix k _) h.gate (hlen.trans_le hk)
    fun d hd => rst_of_mem_transaction up dn bits d (List.mem_of_mem_take hd)
  rw [hlen] at hu
  exact ⟨u, hu, hbus ▸ busRun_take_of_throughout hP k⟩

section
variable {s : State} {a : BusAddr} {b : Byte} {up dn : Bool}

/-- After the address byte of a write to another address the engine is deaf, and was quiet. -/
theorem deaf_and_quietUntil_address (hidle : s.busIdle) (hd : a ≠ s.cfg.devAddr) (h0 : a ≠ 0) :
    AfterBits s.cfg s.bus up dn (byteBits (addrByteBits a false)) (BusView.Deaf s.sbr) ∧
      QuietUntil s.cfg s.bus up dn s.sbr (byteBits (addrByteBits a false)) := by
  rw [bus_of_busIdle hidle]
  have hlow := afterBits_nil (c := s.cfg) (up := up) (dn := dn) (p := s.pstate) (n := s.cnt) (x := s.shreg)
    (r := s.sbr) s.dout
  have hdeaf := afterBits_noMatch hd h0 hlow
  have hlen : ((byteBits (addrByteBits a false)).take 7).length = 7 := rfl
  have hlow7 := afterBits_append ((byteBits (addrByteBits a false)).take 7) hlow hlen.le
  have hquiet7 := quietUntil_address (quietUntil_nil s.pstate s.cnt s.dout) hlow hlen.le
  refine ⟨hdeaf, quietUntil_address_bit (bs := (byteBits (addrByteBits a false)).take 7)
    (b := (addrByteBits a false).getLsbD 0) hquiet7 hlow7 ?_ fun b' => quiet_of_deaf (hdeaf b')⟩
  rw [hlen]
  decide

/-- With the output off the lines in the sampled half of a bit are the master's. -/
theorem lines_of_deaf {u : State} {r : Byte} (h : u.bus.Deaf r) (hd : u.drive = masterCycle up dn true true) :
    u.sclIn = true ∧ u.sdaIn = true := by
  obtain ⟨sda, n, x, dout, hv⟩ := h
  simp [State.sclIn, State.sdaIn, sclDl_of_bus hv, sdaDl_of_bus hv, releasedView, masterCycle, hd]

/-- An acknowledge bit after the address byte is left to the master. -/
theorem not_acknowledged {cs ds : List Bool} (h : Plays s up dn (byteBits (addrByteBits a false) ++ cs ++ true :: ds))
    (hidle : s.busIdle) (hd : a ≠ s.cfg.devAddr) (h0 : a ≠ 0) :
    ∃ u, after (39 + 4 * cs.length) s = some u ∧ u.sclIn = true ∧ u.sdaIn = true := by
  obtain ⟨hdeaf, hquiet⟩ := deaf_and_quietUntil_address (up := up) (dn := dn) hidle hd h0
  obtain ⟨u, hu, hbus, hdrive⟩ := state_at_bit h (deaf_and_quietUntil_append cs hdeaf hquiet).1
  have hcycle : 7 + 4 * (byteBits (addrByteBits a false) ++ cs).length = 39 + 4 * cs.length := by
    simp [byteBits]
    omega
  exact ⟨u, hcycle ▸ hu, lines_of_deaf hbus hdrive⟩

/-- A write to another address keeps the engine quiet and ends with counting off. -/
theorem write_ignored (hidle : s.busIdle) (hd : a ≠ s.cfg.devAddr) (h0 : a ≠ 0) :
    Throughout s.cfg (BusView.Quiet s.sbr) s.bus (transaction up dn (writeBits a b)) ∧
      (busRun s.cfg s.bus (transaction up dn (writeBits a b))).bbEn = false ∧
      (busRun s.cfg s.bus (transaction up dn (writeBits a b))).ovf = false := by
  obtain ⟨hdeaf, hquiet⟩ := deaf_and_quietUntil_address (up := up) (dn := dn) hidle hd h0
  obtain ⟨hdeaf, hquiet⟩ := deaf_and_quietUntil_append (true :: (byteBits b ++ [true])) hdeaf hquiet
  rw [← writeBits_eq_address] at hdeaf hquiet
  obtain ⟨hstop, hend⟩ := quiet_stop (c := s.cfg) (up := up) (dn := dn) (hdeaf false)
  rw [← busRun_append] at hend
  exact ⟨throughout_append (hquiet false) hstop, hend⟩
end

end Sys2Proof.Machine

open Sys2Proof Sys2Proof.Machine

/-- Settles O33: the address byte's event leaves the engine deaf, so no later bit reaches it; that the output stays
off and SBR unwritten is carried through every cycle of the transaction (`write_ignored`). -/
theorem writeToAnotherAddressIsIgnored : Obligations.WriteToAnotherAddressIsIgnored := by
  unfold Obligations.WriteToAnotherAddressIsIgnored
  intro s a b up dn hidle hgate hd h0 hdrive hscript
  have hplays : Plays s up dn (writeBits a b) :=
    { drives := by rw [hdrive, hscript, scriptDrives_write], gate := hgate }
  obtain ⟨hquiet, hen, hovf⟩ := write_ignored (up := up) (dn := dn) (b := b) hidle hd h0
  refine ⟨?_, ?_, fun k hk => ?_, ?_⟩
  · exact not_acknowledged (cs := []) (writeBits_eq_address a b ▸ hplays) hidle hd h0
  · exact not_acknowledged (cs := true :: byteBits b) (ds := []) (by simpa [writeBits] using hplays) hidle hd h0
  · obtain ⟨u, hu, hoe, hsbr⟩ := bus_of_throughout hplays hquiet hk
    exact ⟨u, hu, by simp [State.sdaDl, show u.oe = false from hoe], hsbr⟩
  · obtain ⟨u, hu, hbus⟩ := after_transaction hplays
    rw [← busRun_append] at hbus
    exact ⟨u, hu, (congrArg BusView.bbEn hbus).trans hen, (sclDl_of_bus hbus).trans hovf⟩
end

section
/-! The monitor over a run, and a burst from a cycle inside a pulse to the pulse's end (spec/40_limit_monitor.md R101 to
R104, spec/43_step_sequencer.md R164 to R167). -/

namespace Sys2Proof.Machine

/-! ### The monitor (R102) -/

theorem setC_eq_false_iff (s : State) :
    Reference.setC s = false ↔ s.drive.up s.cfg = s.limUp ∧ s.drive.dn s.cfg = s.limDn := by
  simp [Reference.setC, State.upAsserted, State.dnAsserted, Drive.up, Drive.dn]

/-- No switch flips in a run exactly when none does in its first cycle or in the run from the next state. -/
theorem steady_succ_iff (s : State) (k : Nat) :
    Steady s (k + 1) ↔ Reference.setC s = false ∧ Steady (Reference.activeNext s) k := by
  rw [setC_eq_false_iff]
  constructor
  · intro h
    have hnow := h s.drive List.mem_cons_self
    refine ⟨hnow, fun d hd => ?_⟩
    obtain ⟨hup, hdn⟩ := h d (mem_drives_of_mem_next hd)
    exact ⟨hup.trans hnow.1.symm, hdn.trans hnow.2.symm⟩
  · rintro ⟨hnow, h⟩ d hd
    obtain rfl | hd := List.mem_cons.mp hd
    · exact hnow
    · have hmem : d ∈ (Reference.activeNext s).drives k := by
        cases hs : s.script with
        | nil => simp [hs] at hd
        | cons e es => simpa [State.drives, Reference.activeNext, Reference.nextDrive, hs] using hd
      obtain ⟨hup, hdn⟩ := h d hmem
      exact ⟨hup.trans hnow.1, hdn.trans hnow.2⟩

theorem steady_zero (s : State) : Steady s 0 := fun _ hd => nomatch hd

/-- A flip is seen in the first cycle, or comes after it. -/
theorem changedM_or_flip_next {s : State} {k : Nat} (h : s.changed = true ∨ ¬Steady s (k + 1)) :
    Reference.changedM s = true ∨ ¬Steady (Reference.activeNext s) k := by
  rw [steady_succ_iff] at h
  cases hs : Reference.setC s <;> simp_all [Reference.changedM]

/-! ### A cycle of a pulse (R164 to R167) -/

theorem rst_of_calm {s : State} {k : Nat} (h : Calm s (k + 1)) : s.drive.rst = false :=
  (h s.drive List.mem_cons_self).1

theorem bothLimitsFire_eq_false_of_calm {s : State} {k : Nat} (h : Calm s (k + 1)) :
    s.bothLimitsFire s.upAsserted s.dnAsserted = false := by
  have hlim : (s.cfg.bothLimitsHalt && s.upAsserted && s.dnAsserted) = false := (h s.drive List.mem_cons_self).2
  simp only [State.bothLimitsFire, Bool.and_assoc] at hlim ⊢
  rw [hlim, Bool.and_false]

/-- While a burst is awaited the halt is entered only for both limits (R222). -/
theorem halts_eq_false_of_busy {s : State} {k : Nat} (hi : s.Inv) (hb : s.sqPhase ≠ .idle) (h : Calm s (k + 1)) :
    Reference.halts s = false := by
  have hmoving := hi.busy_waits hb
  have hcause : settleCause s = none := by cases hc : s.cstate <;> simp_all [settleCause, moving]
  exact halts_of_halting_none ((halting_eq_settleCause (bothLimitsFire_eq_false_of_calm h)).trans hcause)

/-- The cycles left of the pulse in progress, the present one included. -/
def State.pulseLeft (s : State) : Nat :=
  match s.sqPhase with
  | .idle => 0
  | .high => s.sqTimer.toNat + 1 + s.sqHp.toNat
  | .low => s.sqTimer.toNat + 1

theorem busy_of_pulseLeft {s : State} {n : Nat} (h : s.pulseLeft = n + 1) : s.sqPhase ≠ .idle := fun hp => by
  simp [State.pulseLeft, hp] at h

/-- The last cycle of a pulse is the one that checks it. -/
theorem pulseEnds_of_pulseLeft_one {s : State} (hi : s.Inv) (hh : Reference.halts s = false) (h : s.pulseLeft = 1) :
    s.sqPhase = .low ∧ s.sqTimer = 0 ∧ Reference.pulseEnds s = true := by
  obtain ⟨-, hhp⟩ := hi.busy_burst (busy_of_pulseLeft h)
  cases hp : s.sqPhase <;> simp only [State.pulseLeft, hp] at h
  case idle => omega
  case high => omega
  case low =>
    have ht : s.sqTimer = 0 := BitVec.eq_of_toNat_eq (by simpa using h)
    exact ⟨rfl, ht, by simp [Reference.pulseEnds, hh, hp, ht]⟩

/-- Any other cycle of a pulse checks nothing and leaves one cycle less of it. -/
theorem pulseLeft_next {s : State} {n : Nat} (hi : s.Inv) (hh : Reference.halts s = false)
    (h : s.pulseLeft = n + 2) : Reference.pulseEnds s = false ∧ (Reference.activeNext s).pulseLeft = n + 1 := by
  have hb := busy_of_pulseLeft h
  obtain ⟨-, hhp⟩ := hi.busy_burst hb
  obtain ⟨-, -, hkeep, -⟩ := keeps_of_busy hb
  have hhp' : (Reference.activeNext s).sqHp = s.sqHp := hkeep
  have hphase : (Reference.activeNext s).sqPhase = Reference.sqPhase s := rfl
  have htimer : (Reference.activeNext s).sqTimer = Reference.sqTimer s := rfl
  simp only [State.pulseLeft, hhp', hphase, htimer] at h ⊢
  cases hp : s.sqPhase <;> simp only [hp] at h
  case idle => omega
  case high =>
    refine ⟨by simp [Reference.pulseEnds, hp], ?_⟩
    by_cases ht : s.sqTimer = 0#32 <;> simp [Reference.sqPhase, Reference.sqTimer, hh, hp, ht] <;> bv_omega
  case low =>
    have ht : s.sqTimer ≠ 0#32 := by bv_omega
    refine ⟨by simp [Reference.pulseEnds, ht], ?_⟩
    simp [Reference.sqPhase, Reference.sqTimer, hh, hp, ht]
    bv_omega

/-- A busy sequencer leaves the flag to the monitor but at the end of a pulse (R102, R104). -/
theorem changed_of_busy {s : State} (hb : s.sqPhase ≠ .idle) :
    Reference.changed s = if Reference.pulseEnds s then false else Reference.changedM s := by
  simp [Reference.changed, accepted_of_busy hb]

/-- A flip seen by the end of a pulse makes its last cycle the last of the burst (R167). -/
theorem burst_over_of_changedM {s : State} (hi : s.Inv) (hh : Reference.halts s = false) (hl : s.pulseLeft = 1)
    (hc : Reference.changedM s = true) : Reference.sqPhase s = .idle ∧
      (Reference.sqTaken s).toNat = s.sqTaken.toNat + 1 ∧ Reference.changed s = false := by
  have hb := busy_of_pulseLeft hl
  obtain ⟨hp, ht, hends⟩ := pulseEnds_of_pulseLeft_one hi hh hl
  have hlt := (hi.busy_burst hb).1
  refine ⟨by simp [Reference.sqPhase, Reference.burstEnds, hh, hp, ht, hc], ?_, ?_⟩
  · rw [(keeps_of_busy hb).1, if_pos hends]
    bv_omega
  · rw [changed_of_busy hb, if_pos hends]

/-! ### The rest of a pulse (R167, the inference R175) -/

/-- With the flag set or a flip to come in the rest of a pulse, the burst is over when the pulse is. -/
theorem flip_ends_burst {n : Nat} {s : State} (hi : s.Inv) (hl : s.pulseLeft = n + 1) (hcalm : Calm s (n + 1))
    (hflip : s.changed = true ∨ ¬Steady s (n + 1)) : ∃ t, after (n + 1) s = some t ∧ t.sqPhase = .idle ∧
      t.sqTaken.toNat = s.sqTaken.toNat + 1 ∧ t.changed = false := by
  induction n generalizing s with
  | zero =>
    have hh := halts_eq_false_of_busy hi (busy_of_pulseLeft hl) hcalm
    have hc := (changedM_or_flip_next hflip).resolve_right (not_not_intro (steady_zero _))
    exact ⟨_, by rw [after, step_of_no_reset (rst_of_calm hcalm)]; rfl, burst_over_of_changedM hi hh hl hc⟩
  | succ n ih =>
    have hb := busy_of_pulseLeft hl
    obtain ⟨hends, hleft⟩ := pulseLeft_next hi (halts_eq_false_of_busy hi hb hcalm) hl
    have hchanged : (Reference.activeNext s).changed = Reference.changedM s :=
      (changed_of_busy hb).trans (if_neg (Bool.eq_false_iff.mp hends))
    have htaken : (Reference.activeNext s).sqTaken = s.sqTaken :=
      (keeps_of_busy hb).1.trans (if_neg (Bool.eq_false_iff.mp hends))
    have hnext := ih (activeNext_inv hi) hleft (calm_next hcalm) (hchanged ▸ changedM_or_flip_next hflip)
    rw [after, step_of_no_reset (rst_of_calm hcalm), ← htaken]
    exact hnext

end Sys2Proof.Machine

open Sys2Proof Sys2Proof.Machine

/-- Settles O13: each operation's meaning writes exactly these fields. -/
theorem monitorOperations : Obligations.MonitorOperations := by
  unfold Obligations.MonitorOperations
  exact fun s => ⟨fun upN dnN => rfl, rfl, fun tz => rfl⟩

/-- Settles O14: the reference writes the limit registers from the pins whatever the state of the other units. -/
theorem limitRegistersFollowThePins : Obligations.LimitRegistersFollowThePins := by
  unfold Obligations.LimitRegistersFollowThePins
  exact fun s hr => ⟨_, step_of_no_reset hr, rfl, rfl⟩

/-- Settles O39: at the first high cycle `2 h` cycles of the pulse are left, and a level that differs in one of them is
a flip (`flip_ends_burst`). -/
theorem flipInsideAPulseEndsTheBurst : Obligations.FlipInsideAPulseEndsTheBurst := by
  unfold Obligations.FlipInsideAPulseEndsTheBurst
  intro s h hi hp hhp ht hcalm hflip
  obtain ⟨n, hn⟩ : ∃ n, 2 * h = n + 1 := Nat.exists_eq_add_one.mpr (by omega)
  have hl : s.pulseLeft = n + 1 := by
    simp only [State.pulseLeft, hp]
    omega
  rw [hn] at hcalm hflip ⊢
  refine flip_ends_burst hi hl hcalm (hflip.imp_right ?_)
  rintro ⟨d, hd, hne⟩ hsteady
  exact hne.elim (· (hsteady d hd).1) (· (hsteady d hd).2)
end

section
/-! The bus engine over a cycle with the gate closed (spec/41_bus_framing.md R110, R111), and with no counted edge and
no pending event (R113 to R116, R132). -/

namespace Sys2Proof.Machine

/-! ### The gate (R110, R111) -/

theorem active_eq_false_of_gate_closed {s : State}
    (h : (s.cstate.homing = true ∧ s.cfg.busActiveDuringHoming = false) ∨
      (s.cstate = .halt ∧ s.cfg.busActiveDuringHalt = false)) : Reference.active s = false := by
  obtain ⟨hc, hcfg⟩ | ⟨hc, hcfg⟩ := h <;> simp [Reference.active, Config.busActive, hc, hcfg]

/-- A closed gate leaves the bus engine at reset, SBR and the sample registers aside. -/
theorem activeNext_bus_of_gate_closed {s : State} (ha : Reference.active s = false) :
    (Reference.activeNext s).bus =
      { pScl := s.sclIn, pSda := s.sdaIn, ss := .idle, pstate := .checkAddress, bbEn := false, ovf := false, cnt := 0
        shreg := 0, dout := true, oe := false, sbr := s.sbr } := by
  simp [State.bus, Reference.activeNext, Reference.ss, Reference.pstate, Reference.bbEn, Reference.ovf, Reference.cnt,
    Reference.shreg, Reference.dout, Reference.oe, Reference.sbr, ha]

/-! ### What the start/stop unit does (R113 to R115) -/

theorem started_of_start {s : State} (h : Reference.start s = true) (m : State) :
    started s m = { m with ss := .settle, pstate := .checkAddress, bbEn := false, ovf := false, oe := false } := by
  simp [started, Reference.commit, h]

/-- A start has SDA fall and a stop has it rise. -/
theorem start_eq_false_of_stop {s : State} (h : Reference.stop s = true) : Reference.start s = false := by
  simp only [Reference.stop, Bool.and_eq_true] at h
  obtain ⟨-, hsda⟩ := h
  simp [Reference.start, hsda]

theorem started_of_stop {s : State} (h : Reference.stop s = true) (m : State) :
    started s m = { m with ss := .idle, bbEn := false, ovf := false, oe := false } := by
  simp [started, Reference.commit, start_eq_false_of_stop h, h]

theorem started_of_none {s : State} (hs : Reference.start s = false) (hp : Reference.stop s = false)
    (hc : Reference.commit s = false) (m : State) : started s m = m := by
  simp [started, hs, hp, hc]

/-- A start and a stop have SCL high in both samples. -/
theorem scl_high_of_start_or_stop {s : State} (h : Reference.start s = true ∨ Reference.stop s = true) :
    s.pScl = true ∧ s.sclIn = true := by
  obtain h | h := h <;> simp only [Reference.start, Reference.stop, Bool.and_eq_true] at h <;>
    obtain ⟨⟨hscl, -⟩, -⟩ := h <;> exact hscl

/-! ### Cycles that count and serve nothing -/

/-- The registers of the bus engine that a start or a stop writes or keeps, read off the bus half. -/
theorem fields_of_bus {t : State} {v : BusView} (h : t.bus = v) :
    t.pstate = v.pstate ∧ t.bbEn = v.bbEn ∧ t.ovf = v.ovf ∧ t.oe = v.oe ∧ t.ss = v.ss ∧ t.sbr = v.sbr ∧
      t.cnt = v.cnt ∧ t.shreg = v.shreg := by
  subst h
  and_intros <;> rfl

theorem edge_eq_false_of_scl_still {s : State} (h : s.pScl = s.sclIn) : Reference.edge s = false :=
  Bool.eq_false_iff.mpr fun he => ((edge_iff s).mp he).1 h

/-- With SCL unchanged and no event pending the bus engine is left to the start/stop unit, the output latch and the
sample registers. -/
theorem activeNext_bus_of_scl_still {s : State} (ha : Reference.active s = true) (hscl : s.pScl = s.sclIn)
    (ho : s.ovf = false) :
    (Reference.activeNext s).bus = { (started s s).bus with
      pScl := s.sclIn, pSda := s.sdaIn, dout := if s.sclIn then s.dout else s.shreg.getLsbD 7 } := by
  have he : Reference.edge s = false := edge_eq_false_of_scl_still hscl
  have hv : Reference.service s = false := by simp [Reference.service, ho]
  simp [State.bus, Reference.activeNext, started, Reference.ss, Reference.pstate, Reference.bbEn, Reference.ovf,
    Reference.cnt, Reference.shreg, Reference.dout, Reference.oe, Reference.sbr, ha, he, hv]

/-- In the cycle of a start or a stop only the start/stop unit acts, and the latch holds. -/
theorem activeNext_bus_of_start_or_stop {s : State} (ha : Reference.active s = true)
    (h : Reference.start s = true ∨ Reference.stop s = true) :
    (Reference.activeNext s).bus = { (started s s).bus with pScl := true, pSda := s.sdaIn } := by
  obtain ⟨hp, hscl⟩ := scl_high_of_start_or_stop h
  rw [activeNext_bus_of_scl_still ha (hp.trans hscl.symm) (ovf_eq_false_of_sclIn hscl), hscl]
  rfl

/-- In SS_SETTLE without a start or a stop the unit waits for SCL low, and then commits (R114, R116). -/
theorem next_of_settle {s : State} (ha : Reference.active s = true) (hs : Reference.start s = false)
    (hp : Reference.stop s = false) (hss : s.ss = .settle) :
    if s.sclIn then Reference.ss s = .settle
    else Reference.cnt s = 0 ∧ Reference.ovf s = false ∧ Reference.bbEn s = true ∧ Reference.ss s = .idle := by
  have hc : Reference.commit s = !s.sclIn := by simp [Reference.commit, hs, hp, hss]
  split
  next hscl => simp [Reference.ss, ha, hs, hp, hc, hscl, hss]
  next hscl => simp [Reference.cnt, Reference.ovf, Reference.bbEn, Reference.ss, ha, hs, hp, hc, hscl]

/-! ### What the bus half can see (R110) -/

/-- The next bus half is a function of the bus half, the configuration, the drives of reset and lines, and the
gate. -/
theorem next_bus_congr {s s' : State} (hcfg : s.cfg = s'.cfg) (hbus : s.bus = s'.bus)
    (hrst : s.drive.rst = s'.drive.rst) (hscl : s.drive.scl = s'.drive.scl) (hsda : s.drive.sda = s'.drive.sda)
    (hgate : Reference.active s = Reference.active s') : (Reference.next s).bus = (Reference.next s').bus := by
  have hsclIn : s.sclIn = s'.sclIn := congrArg₂ (fun d v => d && !BusView.ovf v) hscl hbus
  have hsdaIn : s.sdaIn = s'.sdaIn :=
    congrArg₂ (fun d v => d && !(BusView.oe v && !BusView.dout v)) hsda hbus
  unfold Reference.next
  rw [hrst]
  split
  · simp only [State.bus, State.resetOf, hcfg, hsclIn, hsdaIn]
  · cases ha : Reference.active s'
    case true => rw [activeNext_bus ha, activeNext_bus (hgate.trans ha), hcfg, hbus, hscl, hsda]
    case false =>
      have hsbr : s.sbr = s'.sbr := congrArg BusView.sbr hbus
      rw [activeNext_bus_of_gate_closed ha, activeNext_bus_of_gate_closed (hgate.trans ha), hsclIn, hsdaIn, hsbr]

end Sys2Proof.Machine

open Sys2Proof Sys2Proof.Machine

/-- Settles O55: a step answers the reference's next state (`step_eq_next`), which keeps every clause (`next_inv`). -/
theorem everyStepKeepsTheInvariant : Obligations.EveryStepKeepsTheInvariant := by
  unfold Obligations.EveryStepKeepsTheInvariant
  exact fun s hi => ⟨_, step_eq_next s, next_inv hi⟩

/-- Settles O20, by `activeNext_bus_of_gate_closed`; the outputs to the bus are functions of the bus half. -/
theorem closedGateHoldsTheBusEngine : Obligations.ClosedGateHoldsTheBusEngine := by
  unfold Obligations.ClosedGateHoldsTheBusEngine
  intro s hr hgate
  have hbus := activeNext_bus_of_gate_closed (active_eq_false_of_gate_closed hgate)
  exact ⟨_, step_of_no_reset hr, congrArg BusView.ss hbus, congrArg BusView.pstate hbus, congrArg BusView.bbEn hbus,
    congrArg BusView.ovf hbus, congrArg BusView.cnt hbus, congrArg BusView.shreg hbus, congrArg BusView.dout hbus,
    congrArg BusView.oe hbus, congrArg BusView.pScl hbus, congrArg BusView.pSda hbus, congrArg BusView.sbr hbus,
    sclDl_of_bus hbus, sdaDl_of_bus hbus⟩

/-- Settles O21: a start or a stop comes with SCL high in both samples, so nothing else acts in its cycle
(`activeNext_bus_of_start_or_stop`); otherwise the unit acts in SS_SETTLE alone (`next_of_settle`). -/
theorem startStopUnitOverACycle : Obligations.StartStopUnitOverACycle := by
  unfold Obligations.StartStopUnitOverACycle
  intro s hr ha
  refine ⟨_, step_of_no_reset hr, ?_⟩
  split
  next hs =>
    have hs : Reference.start s = true := hs
    have hbus := activeNext_bus_of_start_or_stop ha (.inl hs)
    rw [started_of_start hs] at hbus
    exact fields_of_bus hbus
  next hs =>
    split
    next hp =>
      have hp : Reference.stop s = true := hp
      have hbus := activeNext_bus_of_start_or_stop ha (.inr hp)
      rw [started_of_stop hp] at hbus
      exact fields_of_bus hbus
    next hp =>
      have hs : Reference.start s = false := Bool.eq_false_iff.mpr hs
      have hp : Reference.stop s = false := Bool.eq_false_iff.mpr hp
      split
      next hss => exact next_of_settle ha hs hp hss
      next hss =>
        have hidle : s.ss = .idle := by cases hc : s.ss <;> simp_all
        change Reference.ss s = .idle
        simp [Reference.ss, hs, hidle]

/-- Settles O22: the reference's latch in an open gate. -/
theorem outputLatchOverACycle : Obligations.OutputLatchOverACycle := by
  unfold Obligations.OutputLatchOverACycle
  intro s hr ha
  have hactive : Reference.active s = true := ha
  refine ⟨_, step_of_no_reset hr, ?_⟩
  simp only [Reference.activeNext, Reference.dout, hactive]
  rfl

/-- Settles O23: the event holds SCL low (`sclIn_of_ovf`), and its service in the same cycle takes it away
(`service_of_ovf`). -/
theorem clockStretchLastsOneCycle : Obligations.ClockStretchLastsOneCycle := by
  unfold Obligations.ClockStretchLastsOneCycle
  intro s hi hr ho
  have hservice : Reference.service s = true := service_of_ovf hi ho
  refine ⟨sclIn_of_ovf ho, _, step_of_no_reset hr, ?_⟩
  change Reference.ovf s = false
  simp [Reference.ovf, hservice]

/-- Settles O26: with the lines still there is no edge, start or stop, and in SS_IDLE no commit. -/
theorem stalledBusHolds : Obligations.StalledBusHolds := by
  unfold Obligations.StalledBusHolds
  intro s hr ha ho hss hscl hsda
  have hs : Reference.start s = false := by simp [Reference.start, hsda]
  have hp : Reference.stop s = false := by simp [Reference.stop, hsda]
  have hc : Reference.commit s = false := by simp [Reference.commit, hss]
  refine ⟨_, step_of_no_reset hr, ?_⟩
  rw [activeNext_bus_of_scl_still ha hscl ho, started_of_none hs hp hc, ← hscl, ← hsda]
  rfl

/-- Settles O59, by `next_bus_congr`. -/
theorem busSeesOnlyTheGate : Obligations.BusSeesOnlyTheGate := by
  unfold Obligations.BusSeesOnlyTheGate
  intro s s' hcfg hbus hrst hscl hsda hgate
  have hactive : Reference.active s = Reference.active s' := by
    rw [Reference.active, Reference.active, hgate, hcfg]
  exact ⟨_, _, step_eq_next s, step_eq_next s', next_bus_congr hcfg hbus hrst hscl hsda hactive⟩
end

section
/-! The edge operations in the arithmetic of the registers (spec/41_bus_framing.md R117 to R119), and the bits of a
byte being sent (R122). -/

namespace Sys2Proof.Machine

/-- A bit shifted in doubles the byte and adds the bit. -/
theorem shiftIn_eq_ofNat (x : Byte) (b : Bool) : shiftIn x b = BitVec.ofNat 8 (2 * x.toNat + b.toNat) := by
  refine BitVec.eq_of_toNat_eq ?_
  have hb : b.toNat < 2 ^ 1 := b.toNat_lt
  rw [shiftIn, ← shiftIn_eq, BitVec.toNat_append, BitVec.toNat_ofBool, ← Nat.shiftLeft_add_eq_or_of_lt hb]
  simp only [BitVec.extractLsb'_toNat, BitVec.toNat_ofNat, Nat.shiftRight_zero, Nat.shiftLeft_eq]
  omega

theorem add_one_eq_ofNat (n : EdgeCount) : n + 1 = BitVec.ofNat 4 (n.toNat + 1) := by bv_omega

theorem beq_fifteen_eq_decide (n : EdgeCount) : (n == 15) = decide (n.toNat = 15) := by
  rw [beq_eq_decide]
  exact decide_eq_decide.mpr BitVec.toNat_inj.symm

/-- COUNT (R118) on the number the counter holds. -/
theorem countEdge_eq_ofNat (s : State) : countEdge s =
    { s with cnt := BitVec.ofNat 4 (s.cnt.toNat + 1), ovf := s.ovf || decide (s.cnt.toNat = 15) } := by
  rw [countEdge_eq, add_one_eq_ofNat, beq_fifteen_eq_decide]
  cases s.ovf <;> cases decide (s.cnt.toNat = 15) <;> rfl

/-- COUNT with no event pending: the sixteenth edge brings it. -/
theorem countEdge_of_ovf_false {s : State} (h : s.ovf = false) : countEdge s =
    { s with cnt := BitVec.ofNat 4 (s.cnt.toNat + 1), ovf := decide (s.cnt.toNat = 15) } := by
  rw [countEdge_eq_ofNat, h, Bool.false_or]

theorem counting_iff (s : State) : s.counting = true ↔ s.bbEn = true ∧ s.ovf = false := by
  simp [State.counting]

/-- Bits shifted in move the bits that were there up. -/
theorem foldl_shiftIn_getLsbD {i : Nat} (bs : List Bool) (x : Byte) (h : i + bs.length < 8) :
    (bs.foldl shiftIn x).getLsbD (i + bs.length) = x.getLsbD i := by
  have hclock : clockBit false = shiftIn := funext₂ clockBit_released
  rw [← hclock, foldl_clockBit_getLsbD false bs x h]

end Sys2Proof.Machine

open Sys2Proof Sys2Proof.Machine

/-- Settles O16: each operation's meaning writes exactly these fields. -/
theorem gateAndStartStopOperations : Obligations.GateAndStartStopOperations := by
  unfold Obligations.GateAndStartStopOperations
  exact fun s => ⟨fun _ => rfl, fun _ => rfl, fun _ => rfl, fun _ => rfl, fun _ _ _ => rfl, fun _ _ _ => rfl,
    fun _ _ => rfl, fun _ => rfl⟩

/-- Settles O17: where counting is enabled an edge is a COUNT (`countEdge_eq_ofNat`), a rise with the bit shifted in
before it (`shiftIn_eq_ofNat`). -/
theorem sclEdgeOperations : Obligations.SclEdgeOperations := by
  unfold Obligations.SclEdgeOperations
  intro s x sda
  have hshift : s.shreg.extractLsb' 0 7 ++ BitVec.ofBool sda = BitVec.ofNat 8 (2 * s.shreg.toNat + sda.toNat) :=
    (shiftIn_eq s.shreg sda).trans (shiftIn_eq_ofNat s.shreg sda)
  refine ⟨?_, ?_, fun y => congrArg Host.Outcome.next (countEdge_eq_ofNat s)⟩
  · simp only [exec, execSclRise, counting_iff, hshift]
    split
    next h =>
      obtain ⟨-, ho⟩ := h
      exact congrArg Host.Outcome.next (countEdge_of_ovf_false ho)
    next => rfl
  · simp only [exec, execSclFall, counting_iff]
    split
    next h =>
      obtain ⟨-, ho⟩ := h
      exact congrArg Host.Outcome.next (countEdge_of_ovf_false ho)
    next => rfl

/-- Settles O19: up to seven bits are counted without an event (`execAll_bits`) and move the byte's bits up
(`foldl_shiftIn_getLsbD`). -/
theorem sentBitsAreTheBytesBits : Obligations.SentBitsAreTheBytesBits := by
  unfold Obligations.SentBitsAreTheBytesBits
  intro s line hb ho hn hlen
  have hrun := execAll_bits line ((counting_iff s).mpr ⟨hb, ho⟩) (by simp [hn]; omega)
  have htop := foldl_shiftIn_getLsbD (i := 7 - line.length) line s.shreg (by omega)
  rw [Nat.sub_add_cancel hlen] at htop
  exact ⟨_, hrun, htop, ho⟩
end

section
/-! The services as operations, and those other than CHECK_ADDRESS over a cycle (spec/42_bus_protocol.md R142 to
R149). -/

namespace Sys2Proof.Machine

/-- A pending event holds SCL low (R127) and stops the counting of edges (R125): the sample of SCL before the cycle and
the master's drive of SCL make no difference to it. -/
theorem busCycle_pending (c : Config) (p : PState) (n : EdgeCount) (x r : Byte) (pScl pSda scl dout oe b : Bool) :
    busCycle c (countingView pScl pSda p true n x dout oe r) scl b =
      busCycle c (countingView false pSda p true n x dout oe r) false b := by
  cases pScl <;> cases scl <;> rfl

/-- The bus engine after the cycle that services a pending event. -/
theorem activeNext_bus_of_pending {s : State} {p : PState} (ha : Reference.active s = true) (ho : s.ovf = true)
    (hb : s.bbEn = true) (hss : s.ss = .idle) (hp : s.pstate = p) :
    (Reference.activeNext s).bus =
      busCycle s.cfg (countingView false s.pSda p true s.cnt s.shreg s.dout s.oe s.sbr) false s.drive.sda := by
  have hview : s.bus = countingView s.pScl s.pSda p true s.cnt s.shreg s.dout s.oe s.sbr := by
    simp only [State.bus, ho, hb, hss, hp]
    rfl
  rw [activeNext_bus ha, hview, busCycle_pending]

/-- The service ends the event and with it the clock stretch (R141). -/
theorem ovf_eq_false_of_service {s : State} (hv : Reference.service s = true) : Reference.ovf s = false := by
  simp [Reference.ovf, hv]

end Sys2Proof.Machine

open Sys2Proof Sys2Proof.Machine

/-- Settles O27: each service's meaning writes exactly these fields. -/
theorem serviceOperations : Obligations.ServiceOperations := by
  unfold Obligations.ServiceOperations
  exact fun s => ⟨fun _ => rfl, fun _ => rfl, rfl, rfl, fun _ _ => rfl, rfl, rfl, rfl, rfl, rfl⟩

/-- Settles O29: the cycle is the service of `pstate` on a bus engine with an event pending
(`activeNext_bus_of_pending`), and what each service leaves of the engine is known (`busCycle_dataRead` and the
others). -/
theorem dataServicesOverACycle : Obligations.DataServicesOverACycle := by
  unfold Obligations.DataServicesOverACycle
  intro s hr ha ho hb hss
  obtain ⟨-, -, -, hv⟩ := service_alone ho hb hss
  have hovf : (Reference.activeNext s).ovf = false := ovf_eq_false_of_service hv
  have hbus := fun p => activeNext_bus_of_pending (p := p) ha ho hb hss
  refine ⟨_, step_of_no_reset hr, hovf, hovf, ?_⟩
  cases hp : s.pstate with
  | checkAddress => trivial
  | dataRead =>
    have h := (hbus _ hp).trans (busCycle_dataRead ..)
    exact ⟨congrArg BusView.oe h, sdaDl_of_bus h, congrArg BusView.cnt h, congrArg BusView.pstate h,
      congrArg BusView.shreg h, congrArg BusView.bbEn h, congrArg BusView.sbr h⟩
  | dataReadAck =>
    have h := (hbus _ hp).trans (busCycle_dataReadAck ..)
    exact ⟨congrArg BusView.sbr h, congrArg BusView.shreg h, congrArg BusView.oe h, congrArg BusView.cnt h,
      congrArg BusView.pstate h, congrArg BusView.bbEn h, sdaDl_of_bus h⟩
  | dataSend =>
    have h := (hbus _ hp).trans (busCycle_dataSend ..)
    exact ⟨congrArg BusView.shreg h, congrArg BusView.oe h, congrArg BusView.cnt h, congrArg BusView.pstate h,
      congrArg BusView.bbEn h, congrArg BusView.sbr h, sdaDl_of_bus h⟩
  | dataSendAck =>
    have h := (hbus _ hp).trans (busCycle_dataSendAck ..)
    exact ⟨congrArg BusView.oe h, sdaDl_of_bus h, congrArg BusView.cnt h, congrArg BusView.pstate h,
      congrArg BusView.shreg h, congrArg BusView.bbEn h, congrArg BusView.sbr h⟩
  | done =>
    have h := (hbus _ hp).trans (busCycle_done ..)
    exact ⟨congrArg BusView.oe h, sdaDl_of_bus h, congrArg BusView.bbEn h, congrArg BusView.pstate h,
      congrArg BusView.shreg h, congrArg BusView.cnt h, congrArg BusView.sbr h⟩
end

section
/-! The step sequencer cycle by cycle: what a busy one keeps (spec/43_step_sequencer.md R173, R207), what the end of a
pulse decides (R167), and how many cycles a pulse and an undisturbed burst take (the inferences R172, R175). -/

namespace Sys2Proof.Machine

/-! ### The sequencer's operations (R162 to R167) -/

theorem exec_seqStart_of_zero {m : MoveCmd} (tz : Bool) (s : State) (h : m.n = 0) : exec (.seqStart tz m) s =
    .next { s with
      lastDir := m.dir, changed := s.wires.setC, sqTaken := 0, sqMax := 0, sqHp := halfPeriod s.cfg m.spd } := by
  obtain ⟨-, heq⟩ | ⟨hne, -⟩ := acceptMove_cases m s
  · exact congrArg Host.Outcome.next heq
  · exact absurd h hne

theorem exec_seqStart_of_ne_zero {m : MoveCmd} (tz : Bool) (s : State) (h : m.n ≠ 0) : exec (.seqStart tz m) s =
    .next { s with
      lastDir := m.dir, changed := s.wires.setC, sqTaken := 0, sqMax := m.n, sqHp := halfPeriod s.cfg m.spd
      sqPhase := .high, sqTimer := halfPeriod s.cfg m.spd - 1 } := by
  obtain ⟨hz, -⟩ | ⟨-, heq⟩ := acceptMove_cases m s
  · exact absurd hz h
  · exact congrArg Host.Outcome.next heq

/-- The check at the end of a pulse ends the burst on a flip or on the last requested pulse (R167). -/
theorem exec_seqPulseEnd_of_over {s : State}
    (h : s.wires.changedM = true ∨ s.sqMax.toNat ≤ (s.sqTaken + 1).toNat) : exec .seqPulseEnd s =
    .next { s with
      sqTaken := s.sqTaken + 1, changed := false, sqPhase := .idle
      wires := { s.wires with took := s.wires.changedM } } := by
  obtain ⟨-, heq⟩ | ⟨hc, hlt, -⟩ := endPulse_cases s
  · exact congrArg Host.Outcome.next heq
  · obtain h | h := h
    · simp [hc] at h
    · omega

theorem exec_seqPulseEnd_of_more {s : State} (hc : s.wires.changedM = false)
    (hlt : (s.sqTaken + 1).toNat < s.sqMax.toNat) : exec .seqPulseEnd s =
    .next { s with
      sqTaken := s.sqTaken + 1, changed := false, sqPhase := .high, sqTimer := s.sqHp - 1
      wires := { s.wires with took := false } } := by
  obtain ⟨h, -⟩ | ⟨-, -, heq⟩ := endPulse_cases s
  · obtain h | h := h
    · simp [hc] at h
    · omega
  · simp only [exec, execSeqPulseEnd, heq, takeChanged, hc]

/-! ### What a cycle of a burst keeps -/

/-- Outside the settle states the halt is entered only for both limits (R222). -/
theorem halts_eq_false_of_not_settling {s : State} {k : Nat} (hs : settling s.cstate = false) (h : Calm s (k + 1)) :
    Reference.halts s = false := by
  have hcause : settleCause s = none := by cases hc : s.cstate <;> simp_all [settleCause, settling]
  exact halts_of_halting_none ((halting_eq_settleCause (bothLimitsFire_eq_false_of_calm h)).trans hcause)

/-- The controller waits where it is while the burst it waits for runs. -/
theorem cstate_of_busy {s : State} {k : Nat} (hi : s.Inv) (hb : s.sqPhase ≠ .idle) (h : Calm s (k + 1)) :
    Reference.cstate s = s.cstate :=
  cstate_of_waiting (halts_eq_false_of_busy hi hb h) (hi.busy_waits hb) hb

/-- The registers of the loop that stand while it waits for its burst (R202, R203). -/
theorem loop_registers_of_waiting {s : State} (hc : s.cstate = .lMove) (hb : s.sqPhase ≠ .idle) :
    Reference.target s = s.target ∧ Reference.position s = s.position ∧ (s.hb != Reference.retargets s) = s.hb := by
  have hne : s.cstate ≠ .lTarget := by simp [hc]
  refine ⟨target_of_ne hne, ?_, by simp [retargets_of_ne hne]⟩
  simp [Reference.position, Reference.homes, Reference.verifying, Reference.sqIdle, hc, hb]

/-! ### The check at the end of a pulse (R167) -/

theorem pulseEnds_iff_of_not_halts {s : State} (hh : Reference.halts s = false) :
    Reference.pulseEnds s = true ↔ s.sqPhase = .low ∧ s.sqTimer = 0 := by
  simp [Reference.pulseEnds, hh]

theorem changedM_iff (s : State) : Reference.changedM s = true ↔
    s.changed = true ∨ s.upAsserted ≠ s.limUp ∨ s.dnAsserted ≠ s.limDn := by
  simp [Reference.changedM, Reference.setC]

/-- The count of a running burst does not wrap. -/
theorem taken_succ_toNat {s : State} (hi : s.Inv) (hb : s.sqPhase ≠ .idle) :
    (s.sqTaken + 1).toNat = s.sqTaken.toNat + 1 := by
  have hlt := (hi.busy_burst hb).1
  bv_omega

/-- The burst ends with a pulse that saw a flip, and with the last requested one. -/
theorem burstEnds_iff {s : State} (hi : s.Inv) (hb : s.sqPhase ≠ .idle) : Reference.burstEnds s = true ↔
    Reference.changedM s = true ∨ s.sqTaken.toNat + 1 = s.sqMax.toNat := by
  have hlt := (hi.busy_burst hb).1
  simp only [Reference.burstEnds, Bool.or_eq_true, BitVec.ule, decide_eq_true_eq, taken_succ_toNat hi hb]
  refine or_congr_right ⟨fun h => ?_, fun h => ?_⟩ <;> omega

/-- The end of a pulse counts one step and clears the flag. -/
theorem count_of_pulseEnds {s : State} (hi : s.Inv) (hb : s.sqPhase ≠ .idle) (he : Reference.pulseEnds s = true) :
    (Reference.sqTaken s).toNat = s.sqTaken.toNat + 1 ∧ Reference.changed s = false := by
  rw [(keeps_of_busy hb).1, changed_of_busy hb, if_pos he, if_pos he]
  exact ⟨taken_succ_toNat hi hb, rfl⟩

/-- After the end of a pulse the burst is over, or the next pulse begins with a whole half-period. -/
theorem phase_of_pulseEnds {s : State} (hi : s.Inv) (hh : Reference.halts s = false)
    (he : Reference.pulseEnds s = true) :
    if Reference.burstEnds s = true then Reference.sqPhase s = .idle
    else Reference.sqPhase s = .high ∧ (Reference.sqTimer s).toNat + 1 = s.sqHp.toNat := by
  obtain ⟨hp, ht⟩ := (pulseEnds_iff_of_not_halts hh).mp he
  have hhp := (hi.busy_burst (by simp [hp])).2
  split
  next hends => simp [Reference.sqPhase, hh, hp, ht, hends]
  next hends =>
    refine ⟨by simp [Reference.sqPhase, hh, hp, ht, hends], ?_⟩
    have htimer : Reference.sqTimer s = s.sqHp - 1 := by simp [Reference.sqTimer, hh, hp, ht, hends]
    rw [htimer]
    bv_omega

/-- Inside a pulse the sequencer stays busy, counts no step and leaves the flag to the monitor. -/
theorem inside_pulse {s : State} (hh : Reference.halts s = false) (hb : s.sqPhase ≠ .idle)
    (he : Reference.pulseEnds s = false) : Reference.sqPhase s ≠ .idle ∧ Reference.sqTaken s = s.sqTaken ∧
      Reference.changed s = Reference.changedM s := by
  have hne : ¬Reference.pulseEnds s = true := Bool.eq_false_iff.mp he
  refine ⟨?_, (keeps_of_busy hb).1.trans (if_neg hne), (changed_of_busy hb).trans (if_neg hne)⟩
  cases hp : s.sqPhase
  case idle => exact absurd hp hb
  case high => by_cases ht : s.sqTimer = 0#32 <;> simp [Reference.sqPhase, hh, hp, ht]
  case low =>
    have ht : s.sqTimer ≠ 0#32 := fun ht => hne ((pulseEnds_iff_of_not_halts hh).mpr ⟨hp, ht⟩)
    simp [Reference.sqPhase, hh, hp, ht]

/-! ### Runs that count down -/

/-- A property of the cycles left that every cycle hands on holds throughout the run. -/
theorem after_of_countdown {P : Nat → State → Prop}
    (hstep : ∀ j u, P (j + 1) u → ∃ t, step u = .next t ∧ P j t) {k : Nat} {s : State} {m : Nat} (hm : P m s)
    (hk : k ≤ m) : ∃ u, after k s = some u ∧ P (m - k) u := by
  induction k generalizing s m with
  | zero => exact ⟨s, rfl, hm⟩
  | succ k ih =>
    obtain ⟨m, rfl⟩ := Nat.exists_eq_add_one.mpr (Nat.zero_lt_of_lt hk)
    obtain ⟨t, ht, hnext⟩ := hstep m s hm
    obtain ⟨u, hu, hleft⟩ := ih hnext (Nat.le_of_succ_le_succ hk)
    exact ⟨u, by rw [after, ht]; exact hu, by rwa [Nat.add_sub_add_right]⟩

/-! ### A pulse (R170, the inference R172) -/

/-- The pulse is in its low phase for its last half-period, and in its high phase before. -/
theorem phase_of_pulseLeft {s : State} (hi : s.Inv) (hb : s.sqPhase ≠ .idle) :
    s.sqPhase = if s.sqHp.toNat < s.pulseLeft then .high else .low := by
  have ht := hi.timer_within hb
  cases hp : s.sqPhase <;> simp only [State.pulseLeft, hp]
  case idle => exact absurd hp hb
  case high => rw [if_pos (by omega)]
  case low => rw [if_neg (by omega)]

/-- `j` cycles are left of the pulse that was under way in `s`, the run having come to `u`. -/
structure InPulse (s : State) (j : Nat) (u : State) : Prop where
  inv : u.Inv
  calm : Calm u j
  hp : u.sqHp = s.sqHp
  dir : u.lastDir = s.lastDir
  running : j ≠ 0 → u.pulseLeft = j ∧ u.sqTaken = s.sqTaken
  ended : j = 0 → u.sqTaken.toNat = s.sqTaken.toNat + 1

/-- A cycle of a pulse leaves one cycle less of it, the last cycle counting the step. -/
theorem InPulse.next {s u : State} {j : Nat} (h : InPulse s (j + 1) u) :
    ∃ t, step u = .next t ∧ InPulse s j t := by
  obtain ⟨hleft, htaken⟩ := h.running (Nat.succ_ne_zero j)
  have hb := busy_of_pulseLeft hleft
  have hh := halts_eq_false_of_busy h.inv hb h.calm
  obtain ⟨-, -, hhp, hdir⟩ := keeps_of_busy hb
  refine ⟨_, step_of_no_reset (rst_of_calm h.calm), ?_⟩
  exact {
    inv := activeNext_inv h.inv
    calm := calm_next h.calm
    hp := hhp.trans h.hp
    dir := hdir.trans h.dir
    running := fun hj => by
      obtain ⟨i, rfl⟩ := Nat.exists_eq_succ_of_ne_zero hj
      obtain ⟨he, hnext⟩ := pulseLeft_next h.inv hh hleft
      obtain ⟨-, hsame, -⟩ := inside_pulse hh hb he
      exact ⟨hnext, hsame.trans htaken⟩
    ended := fun hj => by
      obtain ⟨-, -, he⟩ := pulseEnds_of_pulseLeft_one h.inv hh (by omega)
      rw [← htaken]
      exact (count_of_pulseEnds h.inv hb he).1 }

/-- The first high cycle of a pulse has the whole pulse before it. -/
theorem pulseLeft_of_first_high {s : State} {h : Nat} (hp : s.sqPhase = .high) (hhp : s.sqHp.toNat = h)
    (ht : s.sqTimer.toNat + 1 = h) : s.pulseLeft = 2 * h := by
  simp only [State.pulseLeft, hp]
  omega

/-! ### An undisturbed burst (the inferences R172, R175) -/

/-- The cycles left of the burst in progress if nothing ends it early: the rest of this pulse, and the requested
pulses after it. -/
def State.burstLeft (s : State) : Nat := s.pulseLeft + 2 * s.sqHp.toNat * (s.sqMax.toNat - (s.sqTaken.toNat + 1))

/-- `j` cycles are left of the burst that was under way in `s`, no switch flipping in them. -/
structure InBurst (s : State) (j : Nat) (u : State) : Prop where
  inv : u.Inv
  calm : Calm u j
  steady : Steady u j
  unchanged : u.changed = false
  max : u.sqMax = s.sqMax
  waits : u.cstate = s.cstate
  running : j ≠ 0 → u.sqPhase ≠ .idle ∧ u.burstLeft = j
  ended : j = 0 → u.sqPhase = .idle ∧ u.sqTaken = s.sqMax

/-- Without a flip the flag stays clear. -/
theorem changed_of_steady {s : State} (hb : s.sqPhase ≠ .idle) (hc : Reference.changedM s = false) :
    Reference.changed s = false := by
  rw [changed_of_busy hb, hc, ite_self]

/-- A busy sequencer has a cycle of its pulse to go. -/
theorem pulseLeft_pos {s : State} (hb : s.sqPhase ≠ .idle) : 1 ≤ s.pulseLeft := by
  cases hp : s.sqPhase <;> simp only [State.pulseLeft, hp]
  case idle => exact absurd hp hb
  all_goals omega

/-- Without a flip the burst ends with its last pulse alone. -/
theorem burstEnds_iff_of_steady {s : State} (hi : s.Inv) (hb : s.sqPhase ≠ .idle)
    (hc : Reference.changedM s = false) :
    Reference.burstEnds s = true ↔ s.sqTaken.toNat + 1 = s.sqMax.toNat := by
  simp [burstEnds_iff hi hb, hc]

/-- The last cycle of an undisturbed burst leaves the sequencer idle with every step taken. -/
theorem burst_over_of_burstLeft_one {s : State} (hi : s.Inv) (hh : Reference.halts s = false)
    (hb : s.sqPhase ≠ .idle) (hc : Reference.changedM s = false) (hl : s.burstLeft = 1) :
    Reference.sqPhase s = .idle ∧ Reference.sqTaken s = s.sqMax := by
  obtain ⟨hlt, hhp⟩ := hi.busy_burst hb
  have hpos := pulseLeft_pos hb
  have hpulse : s.pulseLeft = 1 := by rw [State.burstLeft] at hl; omega
  have hlast : s.sqTaken.toNat + 1 = s.sqMax.toNat := by
    rw [State.burstLeft, hpulse, Nat.add_eq_left, Nat.mul_eq_zero] at hl
    omega
  obtain ⟨-, -, he⟩ := pulseEnds_of_pulseLeft_one hi hh hpulse
  have hphase := phase_of_pulseEnds hi hh he
  rw [if_pos ((burstEnds_iff_of_steady hi hb hc).mpr hlast)] at hphase
  exact ⟨hphase, BitVec.eq_of_toNat_eq ((count_of_pulseEnds hi hb he).1.trans hlast)⟩

/-- A busy sequencer's next `burstLeft`, the requested count and the half-period being kept. -/
theorem burstLeft_activeNext {s : State} (hb : s.sqPhase ≠ .idle) : (Reference.activeNext s).burstLeft =
    (Reference.activeNext s).pulseLeft +
      2 * s.sqHp.toNat * (s.sqMax.toNat - ((Reference.sqTaken s).toNat + 1)) := by
  obtain ⟨-, hmax, hhp, -⟩ := keeps_of_busy hb
  rw [← hmax, ← hhp]
  rfl

/-- A pulse that is not the last is followed by a whole pulse. -/
theorem burstLeft_of_next_pulse {s : State} (hi : s.Inv) (hh : Reference.halts s = false)
    (hc : Reference.changedM s = false) (hpulse : s.pulseLeft = 1)
    (hmore : s.sqTaken.toNat + 1 < s.sqMax.toNat) :
    Reference.sqPhase s ≠ .idle ∧ (Reference.activeNext s).burstLeft + 1 = s.burstLeft := by
  have hb := busy_of_pulseLeft hpulse
  obtain ⟨-, -, he⟩ := pulseEnds_of_pulseLeft_one hi hh hpulse
  obtain ⟨hcount, -⟩ := count_of_pulseEnds hi hb he
  obtain ⟨-, -, hhp, -⟩ := keeps_of_busy hb
  have hphase := phase_of_pulseEnds hi hh he
  rw [if_neg (mt (burstEnds_iff_of_steady hi hb hc).mp hmore.ne)] at hphase
  obtain ⟨hhigh, htimer⟩ := hphase
  have hwhole : (Reference.activeNext s).pulseLeft = 2 * s.sqHp.toNat :=
    pulseLeft_of_first_high hhigh (congrArg BitVec.toNat hhp) htimer
  have hpulses : s.sqMax.toNat - (s.sqTaken.toNat + 1) = s.sqMax.toNat - (s.sqTaken.toNat + 1 + 1) + 1 := by omega
  refine ⟨by simp [hhigh], ?_⟩
  rw [burstLeft_activeNext hb, hwhole, hcount, State.burstLeft, hpulse, hpulses, Nat.mul_succ]
  omega

/-- Any other cycle of an undisturbed burst leaves the sequencer busy and one cycle less of the burst. -/
theorem burstLeft_next {s : State} {n : Nat} (hi : s.Inv) (hh : Reference.halts s = false)
    (hb : s.sqPhase ≠ .idle) (hc : Reference.changedM s = false) (hl : s.burstLeft = n + 2) :
    Reference.sqPhase s ≠ .idle ∧ (Reference.activeNext s).burstLeft = n + 1 := by
  obtain ⟨hlt, -⟩ := hi.busy_burst hb
  obtain hpulse | ⟨i, hpulse⟩ : s.pulseLeft = 1 ∨ ∃ i, s.pulseLeft = i + 2 :=
    (pulseLeft_pos hb).eq_or_lt.imp Eq.symm fun h => ⟨s.pulseLeft - 2, by omega⟩
  · have hmore : s.sqTaken.toNat + 1 ≠ s.sqMax.toNat := fun hlast => by
      simp [State.burstLeft, hpulse, hlast] at hl
    obtain ⟨hbusy, hleft⟩ := burstLeft_of_next_pulse hi hh hc hpulse (by omega)
    exact ⟨hbusy, by omega⟩
  · obtain ⟨he, hnext⟩ := pulseLeft_next hi hh hpulse
    obtain ⟨hbusy, htaken, -⟩ := inside_pulse hh hb he
    rw [State.burstLeft] at hl
    rw [burstLeft_activeNext hb, hnext, htaken]
    exact ⟨hbusy, by omega⟩

/-- A cycle without a flip leaves one cycle less of the burst. -/
theorem InBurst.next {s u : State} {j : Nat} (h : InBurst s (j + 1) u) :
    ∃ t, step u = .next t ∧ InBurst s j t := by
  obtain ⟨hb, hl⟩ := h.running (Nat.succ_ne_zero j)
  have hh := halts_eq_false_of_busy h.inv hb h.calm
  obtain ⟨hset, hsteady⟩ := (steady_succ_iff u j).mp h.steady
  have hc : Reference.changedM u = false := by rw [Reference.changedM, h.unchanged, hset]; rfl
  obtain ⟨-, hmax, -, -⟩ := keeps_of_busy hb
  refine ⟨_, step_of_no_reset (rst_of_calm h.calm), ?_⟩
  exact {
    inv := activeNext_inv h.inv
    calm := calm_next h.calm
    steady := hsteady
    unchanged := changed_of_steady hb hc
    max := hmax.trans h.max
    waits := (cstate_of_busy h.inv hb h.calm).trans h.waits
    running := fun hj => by
      obtain ⟨i, rfl⟩ := Nat.exists_eq_succ_of_ne_zero hj
      exact burstLeft_next h.inv hh hb hc hl
    ended := fun hj => by
      rw [hj] at hl
      exact (burst_over_of_burstLeft_one h.inv hh hb hc hl).imp_right (·.trans h.max) }

/-! ### The loop's burst (spec/45_position_loop.md R201, R202) -/

/-- The loop moves at the cruise speed. -/
theorem speed_of_lCompute {s : State} {m : MoveCmd} (hh : Reference.halts s = false) (hc : s.cstate = .lCompute)
    (h : Reference.issued s = some m) : m.spd = .cruise := by
  obtain ⟨-, hi⟩ | ⟨-, hi⟩ | ⟨-, hi⟩ := issued_of_lCompute hh hc
  · cases hi.symm.trans h
  · cases hi.symm.trans h; rfl
  · cases hi.symm.trans h; rfl

/-- With no move accepted an idle sequencer changes nothing (R168). -/
theorem keeps_of_idle {s : State} (hh : Reference.halts s = false) (hp : s.sqPhase = .idle)
    (ha : Reference.accepted s = none) : Reference.sqPhase s = .idle ∧ Reference.lastDir s = s.lastDir ∧
      Reference.sqTaken s = s.sqTaken := by
  simp [Reference.sqPhase, Reference.lastDir, Reference.sqTaken, Reference.pulseEnds, hh, hp, ha]

/-- An accepted move of some steps begins a pulse (R162). -/
theorem high_of_accepted {s : State} {m : MoveCmd} (hh : Reference.halts s = false)
    (ha : Reference.accepted s = some m) (hn : m.n ≠ 0) : Reference.sqPhase s = .high := by
  obtain ⟨hp, -⟩ := (accepted_isSome_iff s).mp (by simp [ha])
  have hn' : m.n ≠ 0#32 := hn
  simp [Reference.sqPhase, hh, hp, ha, hn']

/-- The burst L_COMPUTE starts off the target is for the distance, in the direction of the target (R201). -/
theorem distance_of_lCompute {s : State} (hi : s.Inv) (hc : s.cstate = .lCompute)
    (hmove : Reference.cstate s = .lMove) (hne : s.target ≠ s.position) :
    Reference.lastDir s = (if s.position.toInt < s.target.toInt then .up else .down) ∧
      ((Reference.sqMax s).toNat : Int) = |s.target.toInt - s.position.toInt| ∧ Reference.sqMax s ≠ 0 := by
  have hne' : s.target.toInt ≠ s.position.toInt := mt BitVec.toInt_inj.mp hne
  have hburst := next_loop_burst hi hmove
  rw [target_of_ne (by simp [hc]), position_of_not_writer (by simp [hc]) (by simp [hc])] at hburst
  obtain ⟨hd, hmax⟩ | ⟨hd, hmax⟩ := hburst
  · rw [hd, ← hmax, if_pos (by omega), abs_of_nonneg (by omega)]
    exact ⟨rfl, rfl, fun h0 => by simp [h0] at hmax; omega⟩
  · rw [hd, ← hmax, if_neg (by omega), abs_of_nonpos (by omega), neg_sub]
    exact ⟨rfl, rfl, fun h0 => by simp [h0] at hmax; omega⟩

/-- The burst over, L_MOVE adds the steps to the position without a wrap, and they do not pass the target (R202,
R205). -/
theorem position_of_burst_over {s : State} (hi : s.Inv) (hh : Reference.halts s = false) (hc : s.cstate = .lMove)
    (hidle : s.sqPhase = .idle) :
    (Reference.position s).toInt =
      (if s.lastDir = .up then s.position.toInt + s.sqTaken.toNat else s.position.toInt - s.sqTaken.toNat) ∧
    (if s.lastDir = .up then (Reference.position s).toInt ≤ s.target.toInt
      else s.target.toInt ≤ (Reference.position s).toInt) := by
  obtain ⟨-, hp0, -, ht0, ht1⟩ := hi.loop_ranges (by simp [hc, inLoop])
  have hscale := s.cfg.scale_le
  have htaken := hi.taken_within (by simp [hc, moving])
  have hpos : Reference.position s =
      if s.lastDir = .up then s.position + s.sqTaken else s.position - s.sqTaken := by
    simp [Reference.position, Reference.homes, Reference.verifying, Reference.sqIdle, hh, hc, hidle]
  rw [hpos]
  obtain ⟨hd, hburst⟩ | ⟨hd, hburst⟩ := hi.loop_burst hc
  · rw [if_pos hd, if_pos hd, if_pos hd, toInt_add_of_range hp0 (by omega)]
    exact ⟨rfl, by omega⟩
  · have hd' : ¬s.lastDir = .up := by simp [hd]
    rw [if_neg hd', if_neg hd', if_neg hd', toInt_sub_of_range (by omega)]
    exact ⟨rfl, by omega⟩

end Sys2Proof.Machine

open Sys2Proof Sys2Proof.Machine

/-- Settles O35, by the rule of each operation; counting and the phase change write exactly these fields. -/
theorem sequencerOperations : Obligations.SequencerOperations := by
  unfold Obligations.SequencerOperations
  exact fun s => ⟨fun tz _ => exec_seqStart_of_zero tz s, fun tz _ => exec_seqStart_of_ne_zero tz s, rfl, rfl, rfl,
    exec_seqPulseEnd_of_over, exec_seqPulseEnd_of_more, fun _ => rfl⟩

/-- Settles O36: a busy sequencer keeps its burst (`keeps_of_busy`), and the check of `burstEnds_iff` is made only
where the pulse ends (`phase_of_pulseEnds`, `inside_pulse`). -/
theorem pulseIsCheckedAtItsEnd : Obligations.PulseIsCheckedAtItsEnd := by
  unfold Obligations.PulseIsCheckedAtItsEnd
  intro s hi hcalm hb
  have hh := halts_eq_false_of_busy hi hb hcalm
  obtain ⟨-, hmax, hhp, hdir⟩ := keeps_of_busy hb
  refine ⟨_, step_of_no_reset (rst_of_calm hcalm), hdir, hmax, hhp, cstate_of_busy hi hb hcalm, ?_⟩
  split
  next hend =>
    have he := (pulseEnds_iff_of_not_halts hh).mpr hend
    obtain ⟨htaken, hchanged⟩ := count_of_pulseEnds hi hb he
    refine ⟨htaken, hchanged, ?_⟩
    have hphase := phase_of_pulseEnds hi hh he
    simp only [burstEnds_iff hi hb, changedM_iff, or_assoc] at hphase
    exact hphase
  next hend => exact inside_pulse hh hb (Bool.eq_false_iff.mpr (mt (pulseEnds_iff_of_not_halts hh).mp hend))

/-- Settles O37: `2 h` cycles are left of the pulse at its first (`pulseLeft_of_first_high`), each takes one away
(`InPulse.next`), and the last `h` are the low ones (`phase_of_pulseLeft`). -/
theorem pulseHasEqualPhases : Obligations.PulseHasEqualPhases := by
  unfold Obligations.PulseHasEqualPhases
  intro s h hi hp hhp ht hcalm
  have hstart : InPulse s (2 * h) s :=
    { inv := hi, calm := hcalm, hp := rfl, dir := rfl
      running := fun _ => ⟨pulseLeft_of_first_high hp hhp ht, rfl⟩
      ended := fun h0 => by omega }
  have hrun : ∀ {k}, k ≤ 2 * h → ∃ u, after k s = some u ∧ InPulse s (2 * h - k) u :=
    after_of_countdown (fun _ _ => InPulse.next) hstart
  have hphase : ∀ k, k < 2 * h → ∃ u, after k s = some u ∧ u.sqPhase = if k < h then .high else .low := by
    intro k hk
    obtain ⟨u, hu, hin⟩ := hrun hk.le
    obtain ⟨hleft, -⟩ := hin.running (by omega)
    have hb : u.sqPhase ≠ .idle := busy_of_pulseLeft (n := 2 * h - k - 1) (by omega)
    refine ⟨u, hu, (phase_of_pulseLeft hin.inv hb).trans (if_congr ?_ rfl rfl)⟩
    rw [hin.hp, hleft]
    omega
  refine ⟨fun k hk => ?_, fun k hk hk' => ?_, ?_⟩
  · obtain ⟨u, hu, hu'⟩ := hphase k (by omega)
    exact ⟨u, hu, by simp [State.stepOut, hu', hk]⟩
  · obtain ⟨u, hu, hu'⟩ := hphase k hk'
    rw [if_neg hk.not_gt] at hu'
    exact ⟨u, hu, by simp [State.stepOut, hu'], hu'⟩
  · obtain ⟨t, ht, hin⟩ := hrun le_rfl
    exact ⟨t, ht, hin.ended (Nat.sub_self _), hin.dir⟩

/-- Settles O38: `2 h n` cycles are left of the burst at its first, and each takes one away (`InBurst.next`). -/
theorem undisturbedBurstTakesEveryStep : Obligations.UndisturbedBurstTakesEveryStep := by
  unfold Obligations.UndisturbedBurstTakesEveryStep
  intro s h n hi hp hhp ht htaken hmax hchanged hcalm hsteady
  have hb : s.sqPhase ≠ .idle := by simp [hp]
  obtain ⟨hlt, hpos⟩ := hi.busy_burst hb
  obtain ⟨i, rfl⟩ : ∃ i, n = i + 1 := Nat.exists_eq_add_one.mpr (by omega)
  have hleft : s.burstLeft = 2 * h * (i + 1) := by
    rw [State.burstLeft, pulseLeft_of_first_high hp hhp ht, hhp, hmax, htaken, Nat.mul_succ, Nat.add_comm]
    rfl
  have hne : 2 * h * (i + 1) ≠ 0 := Nat.mul_ne_zero (by omega) i.succ_ne_zero
  have hstart : InBurst s (2 * h * (i + 1)) s :=
    { inv := hi, calm := hcalm, steady := hsteady, unchanged := hchanged, max := rfl, waits := rfl
      running := fun _ => ⟨hb, hleft⟩
      ended := fun h0 => absurd h0 hne }
  have hrun : ∀ {k}, k ≤ 2 * h * (i + 1) → ∃ u, after k s = some u ∧ InBurst s (2 * h * (i + 1) - k) u :=
    after_of_countdown (fun _ _ => InBurst.next) hstart
  refine ⟨fun k hk => ?_, ?_⟩
  · obtain ⟨u, hu, hin⟩ := hrun hk.le
    exact ⟨u, hu, (hin.running (by omega)).1⟩
  · obtain ⟨t, ht, hin⟩ := hrun le_rfl
    obtain ⟨hidle, hall⟩ := hin.ended (Nat.sub_self _)
    exact ⟨t, ht, hidle, hall, hin.waits⟩

/-- Settles O46: off the target the move issued at cruise speed is accepted, and the invariant of the next state says
that it is for the distance, in its direction (`State.Inv.loop_burst`). -/
theorem loopBurstGoesToTheTarget : Obligations.LoopBurstGoesToTheTarget := by
  unfold Obligations.LoopBurstGoesToTheTarget
  intro s hi hcalm hc
  have hh := halts_eq_false_of_not_settling (by simp [hc, settling]) hcalm
  have hidle := idle_of_not_moving hi (by simp [hc, moving])
  refine ⟨_, step_of_no_reset (rst_of_calm hcalm), ?_⟩
  split
  next ht =>
    have hnone : Reference.issued s = none := by simpa [ht] using issued_isSome_of_lCompute hh hc
    have hcstate : Reference.cstate s = .lTarget := by simp [Reference.cstate, hh, hc, ht]
    exact ⟨hcstate, keeps_of_idle hh hidle ((accepted_of_idle hidle).trans hnone)⟩
  next ht =>
    obtain ⟨m, hm⟩ := Option.isSome_iff_exists.mp ((issued_isSome_of_lCompute hh hc).mpr ht)
    have ha := accepted_of_issued hi hm
    have hcstate : Reference.cstate s = .lMove := by simp [Reference.cstate, hh, hc, ht]
    obtain ⟨htaken, hmax, hhp, -⟩ := loads_of_accepted ha
    obtain ⟨hdir, hdist, hn⟩ := distance_of_lCompute hi hc hcstate ht
    rw [speed_of_lCompute hh hc hm] at hhp
    exact ⟨hcstate, high_of_accepted hh ha (hmax ▸ hn), htaken, hhp, hdir, hdist⟩

/-- Settles O47, by `position_of_burst_over`: the invariant bounds the steps taken by the distance. -/
theorem positionAdvancesByStepsTaken : Obligations.PositionAdvancesByStepsTaken := by
  unfold Obligations.PositionAdvancesByStepsTaken
  intro s hi hcalm hc hidle
  have hh := halts_eq_false_of_not_settling (by simp [hc, settling]) hcalm
  have hcstate : Reference.cstate s = .lTarget := by simp [Reference.cstate, Reference.sqIdle, hh, hc, hidle]
  exact ⟨_, step_of_no_reset (rst_of_calm hcalm), hcstate, position_of_burst_over hi hh hc hidle⟩

/-- Settles O49: a waiting controller stays (`cstate_of_waiting`), and neither it nor the busy sequencer writes these
registers, whatever SBR is. -/
theorem burstIsNotPreempted : Obligations.BurstIsNotPreempted := by
  unfold Obligations.BurstIsNotPreempted
  intro s hcalm hc hb
  have hh := halts_eq_false_of_not_settling (by simp [hc, settling]) hcalm
  have hcstate := (cstate_of_waiting hh (by simp [hc, moving]) hb).trans hc
  obtain ⟨htarget, hposition, hhb⟩ := loop_registers_of_waiting hc hb
  obtain ⟨-, hmax, hhp, hdir⟩ := keeps_of_busy hb
  exact ⟨_, step_of_no_reset (rst_of_calm hcalm), hcstate, htarget, hposition, hmax, hdir, hhp, hhb⟩
end

section
/-! Homing (spec/44_homing.md): what its operations do and leave unchanged, and how long a settle state lasts (R193). -/

namespace Sys2Proof.Machine

/-! ### The states that issue a burst or wait for one (R181, R182, R185, R188, R191) -/

theorem sqIdle_iff (s : State) : s.sqIdle = true ↔ s.sqPhase = .idle := beq_iff_eq

/-- H1_CHECK moves for the budget left, and only while there is some (R181). -/
theorem exec_h1Check (s : State) : exec .h1Check s =
    if s.wires.upN = true ∧ s.hacc.toNat < s.cfg.maxUpHomingBackoff.toNat then
      .next { s with cstate := .h1Move, wires := { s.wires with
        move := some { dir := .down, spd := .p1, n := s.cfg.maxUpHomingBackoff - s.hacc } } }
    else .next { s with stimer := s.cfg.settleCycles, cstate := .h1Settle } := by
  have hleft : (s.wires.upN && !s.exhausted s.cfg.maxUpHomingBackoff) = true ↔
      s.wires.upN = true ∧ s.hacc.toNat < s.cfg.maxUpHomingBackoff.toNat := by
    simp [State.exhausted, BitVec.ule]
  exact if_congr hleft rfl rfl

/-- Waiting for the burst of phase 2 or 3 changes nothing until it is over (R185, R188). -/
theorem next_awaitBurst (n : CState) (s : State) : (Host.Outcome.next (awaitBurst n s) : Result) =
    if s.sqPhase = .idle then .next { s with hacc := s.sqTaken, stimer := s.cfg.settleCycles, cstate := n }
    else .next s := by
  obtain ⟨hp, heq⟩ | ⟨hp, heq⟩ := awaitBurst_cases n s
  · rw [if_pos hp, heq]
  · rw [if_neg hp, heq]

/-! ### The settle states (R183, R186, R189, R192, R193) -/

theorem settle_of_ne_zero {f : State → State} {s : State} (h : s.stimer ≠ 0) :
    settle f s = { s with stimer := s.stimer - 1 } := by
  obtain ⟨hz, -⟩ | ⟨-, heq⟩ := settle_cases f s
  · exact absurd hz h
  · exact heq

theorem settle_of_zero {f : State → State} {s : State} (h : s.stimer = 0) : settle f s = f s := by
  obtain ⟨-, heq⟩ | ⟨hne, -⟩ := settle_cases f s
  · exact heq
  · exact absurd h hne

/-- The last cycle of a settle of phases 1 to 3 checks the budget before the switch, whose wrong level is `p`. -/
theorem next_settle_verifyPhase {b : Word32} {k j : HaltCause} {n : CState} {wrong : Bool} {p : Prop} [Decidable p]
    {s : State} (h : s.stimer = 0) (hp : wrong = true ↔ p) :
    (Host.Outcome.next (settle (verifyPhase b k wrong j n) s) : Result) =
      if b.toNat ≤ s.hacc.toNat then .next { s with cstate := .halt, haltCause := some k, sqPhase := .idle }
      else if p then .next { s with cstate := .halt, haltCause := some j, sqPhase := .idle }
      else .next { s with hacc := 0, cstate := n } := by
  rw [settle_of_zero h]
  obtain ⟨hb, heq⟩ | ⟨hb, hw, heq⟩ | ⟨hb, hw, heq⟩ := verifyPhase_cases b k wrong j n s
  · rw [if_pos hb, heq, enterHalt]
  · rw [if_neg hb.not_ge, if_pos (hp.mp hw), heq, enterHalt]
  · rw [if_neg hb.not_ge, if_neg (mt hp.mpr (by simp [hw])), heq]

/-! ### The cycles of a settle state (R193) -/

/-- While its timer runs a settle state halts only for both limits: its own check is in its last cycle (R193, R222). -/
theorem halting_eq_none_of_timer_running {s : State} {k : Nat} (ht : s.stimer ≠ 0) (h : Calm s (k + 1)) :
    Reference.halting s = none := by
  have ht' : (s.stimer == 0) = false := beq_eq_false_iff_ne.mpr ht
  rw [halting_eq_settleCause (bothLimitsFire_eq_false_of_calm h)]
  unfold settleCause
  split <;> simp only [verifyCause, ht', Bool.false_and, Bool.false_eq_true, if_false]

theorem settling_keeps_of_timer_running {s : State} {k : Nat} (hs : settling s.cstate = true) (ht : s.stimer ≠ 0)
    (h : Calm s (k + 1)) : Reference.cstate s = s.cstate ∧ Reference.stimer s = s.stimer - 1 := by
  have hcount := controlled_of_settling (halting_eq_none_of_timer_running ht h) hs ht
  exact ⟨congrArg State.cstate hcount, congrArg State.stimer hcount⟩

/-- With its timer at 0 a settle state is left, for the next phase or for the halt. -/
theorem cstate_ne_of_timer_out {s : State} (hs : settling s.cstate = true) (ht : s.stimer = 0) :
    Reference.cstate s ≠ s.cstate := by
  cases hh : Reference.halts s
  case true =>
    rw [cstate_of_halts hh]
    intro hc
    rw [← hc] at hs
    cases hs
  case false =>
    cases hc : s.cstate <;> rw [hc] at hs
    case h1Settle | h2Settle | h3Settle | h4Settle => simp [Reference.cstate, hh, hc, ht]
    all_goals cases hs

/-- `j` cycles are left of the settle state that was under way in `s`, the run having come to `u`. -/
structure InSettle (s : State) (j : Nat) (u : State) : Prop where
  calm : Calm u j
  running : j ≠ 0 → u.cstate = s.cstate ∧ u.stimer.toNat + 1 = j
  ended : j = 0 → u.cstate ≠ s.cstate

/-- A cycle of a settle state leaves one cycle less of it, the last cycle leaving the state. -/
theorem InSettle.next {s u : State} {j : Nat} (hs : settling s.cstate = true) (h : InSettle s (j + 1) u) :
    ∃ t, step u = .next t ∧ InSettle s j t := by
  obtain ⟨hc, hleft⟩ := h.running (Nat.succ_ne_zero j)
  have hsu : settling u.cstate = true := hc ▸ hs
  refine ⟨_, step_of_no_reset (rst_of_calm h.calm), ?_⟩
  exact {
    calm := calm_next h.calm
    running := fun hj => by
      have ht : u.stimer ≠ 0 := by bv_omega
      obtain ⟨hkeep, hcount⟩ := settling_keeps_of_timer_running hsu ht h.calm
      have hnext : (Reference.stimer u).toNat + 1 = j := by
        rw [hcount]
        bv_omega
      exact ⟨hkeep.trans hc, hnext⟩
    ended := fun hj => by
      have ht : u.stimer = 0 := by bv_omega
      rw [← hc]
      exact cstate_ne_of_timer_out hsu ht }

end Sys2Proof.Machine

open Sys2Proof Sys2Proof.Machine

/-- Settles O42: `stimer + 1` cycles are left of a settle state, and each takes one away (`InSettle.next`). -/
theorem settleLastsItsCycles : Obligations.SettleLastsItsCycles := by
  unfold Obligations.SettleLastsItsCycles
  intro s n hs hn hcalm
  have hstart : InSettle s (n + 1) s :=
    { calm := hcalm
      running := fun _ => ⟨rfl, congrArg (· + 1) hn⟩
      ended := fun h0 => absurd h0 n.succ_ne_zero }
  have hrun : ∀ {k}, k ≤ n + 1 → ∃ u, after k s = some u ∧ InSettle s (n + 1 - k) u :=
    after_of_countdown (fun _ _ => InSettle.next hs) hstart
  refine ⟨fun k hk => ?_, ?_⟩
  · obtain ⟨u, hu, hin⟩ := hrun (Nat.le_succ_of_le hk)
    exact ⟨u, hu, (hin.running (by omega)).1⟩
  · obtain ⟨t, ht, hin⟩ := hrun le_rfl
    exact ⟨t, ht, hin.ended (Nat.sub_self _)⟩

/-- Settles O40, by the rules of H1_CHECK and of the wait; H3_START and H4_START issue their burst unconditionally. -/
theorem homingMoveOperations : Obligations.HomingMoveOperations := by
  unfold Obligations.HomingMoveOperations
  exact fun s => ⟨exec_h1Check s, if_congr (sqIdle_iff s) rfl rfl, rfl, next_awaitBurst .h2Settle s, rfl,
    next_awaitBurst .h3Settle s, rfl, if_congr (sqIdle_iff s) rfl rfl⟩

/-- Settles O41: the timer not 0 counts down whatever the check (`settle_of_ne_zero`), and at 0 the check of each phase
is made (`next_settle_verifyPhase`). -/
theorem homingSettleOperations : Obligations.HomingSettleOperations := by
  unfold Obligations.HomingSettleOperations
  intro s
  refine ⟨fun ht => ?_, fun ht => ⟨?_, ?_, ?_, ?_⟩⟩
  · have hcount := fun f => congrArg (Host.Outcome.next : State → Result) (settle_of_ne_zero (f := f) ht)
    exact ⟨hcount _, hcount _, hcount _, hcount _⟩
  · exact next_settle_verifyPhase ht Iff.rfl
  · exact next_settle_verifyPhase ht (Bool.not_eq_true' _).to_iff
  · exact next_settle_verifyPhase ht Iff.rfl
  · exact congrArg Host.Outcome.next (settle_of_zero ht)
end

section
/-! The position loop at rest (spec/45_position_loop.md): what its operations do and leave unchanged (R201 to R203), the
target as an exact product (R204), and an iteration at the target (the inference R206). -/

namespace Sys2Proof.Machine

/-! ### The target (R203, R204) -/

/-- The byte times the scale factor fits the word, so the product is exact (R7, R204). -/
theorem toNat_scaledTarget (c : Config) (b : Byte) : (scaledTarget c b).toNat = b.toNat * c.scale.toNat := by
  have hscale := c.scale_le
  have hle : b.toNat * c.scale.toNat ≤ 255 * c.scale.toNat := Nat.mul_le_mul_right _ (by omega)
  rw [scaledTarget, BitVec.toNat_mul, BitVec.toNat_setWidth_of_le (by decide)]
  exact Nat.mod_eq_of_lt (by omega)

theorem toInt_scaledTarget (c : Config) (b : Byte) :
    (scaledTarget c b).toInt = (b.toNat : Int) * (c.scale.toNat : Int) := by
  have hnonneg : 0 ≤ (scaledTarget c b).toInt := (scaledTarget_range c b).1
  rw [toInt_eq_toNat_of_nonneg hnonneg, toNat_scaledTarget, Nat.cast_mul]

theorem scaledTarget_eq_ofNat (c : Config) (b : Byte) :
    scaledTarget c b = BitVec.ofNat 32 (b.toNat * c.scale.toNat) := by
  rw [← toNat_scaledTarget, BitVec.ofNat_toNat, BitVec.setWidth_eq]

/-! ### The operations (R201 to R203) -/

/-- L_COMPUTE issues a burst for the signed distance, or none where the distance is 0 (R201). -/
theorem exec_lCompute (s : State) : exec .lCompute s =
    if 0 < s.steps.toInt then .next { issueMove .up s.steps .cruise s with cstate := .lMove }
    else if s.steps.toInt < 0 then .next { issueMove .down (-s.steps) .cruise s with cstate := .lMove }
    else .next { s with cstate := .lTarget } :=
  if_congr BitVec.slt_iff_toInt_lt rfl (if_congr BitVec.slt_iff_toInt_lt rfl rfl)

theorem exec_lMove_of_busy {s : State} (h : s.sqPhase ≠ .idle) : exec .lMove s = .next s :=
  if_neg (mt (sqIdle_iff s).mp h)

/-- The burst over, L_MOVE adds the steps completed in the direction of the burst (R202). -/
theorem exec_lMove_of_idle {s : State} (h : s.sqPhase = .idle) : exec .lMove s =
    if s.lastDir = .up then .next { s with position := s.position + s.sqTaken, cstate := .lTarget }
    else .next { s with position := s.position - s.sqTaken, cstate := .lTarget } := by
  refine (if_pos ((sqIdle_iff s).mpr h)).trans ?_
  cases s.lastDir <;> rfl

/-! ### A cycle of the loop (R203, R206, R208) -/

theorem target_of_lTarget {s : State} (hh : Reference.halts s = false) (hc : s.cstate = .lTarget) :
    Reference.target s = scaledTarget s.cfg s.sbr ∧ Reference.retargets s = true ∧
      Reference.cstate s = .lCompute := by
  simp [Reference.target, Reference.retargets, Reference.cstate, scaledTarget, hh, hc]

/-- SBR is written by the DATA_READ_ACK service alone (R146). -/
theorem sbr_of_no_store {s : State} (h : s.ovf = false ∨ s.pstate ≠ .dataReadAck) : Reference.sbr s = s.sbr := by
  obtain h | h := h <;> simp [Reference.sbr, Reference.service, h]

/-- With no move accepted an idle sequencer keeps what its last burst left (R168). -/
theorem burst_registers_of_idle {s : State} (hh : Reference.halts s = false) (hp : s.sqPhase = .idle)
    (ha : Reference.accepted s = none) : Reference.sqTimer s = s.sqTimer ∧ Reference.sqMax s = s.sqMax ∧
      Reference.sqHp s = s.sqHp := by
  simp [Reference.sqTimer, Reference.sqMax, Reference.sqHp, hh, hp, ha]

/-- A cycle in L_COMPUTE or L_TARGET that issues no move writes, of the motion half, the monitor, the controller state,
the target and the heartbeat only. -/
theorem motion_of_no_move {s : State} {k : Nat} (hi : s.Inv) (hcalm : Calm s (k + 1))
    (hc : s.cstate = .lCompute ∨ s.cstate = .lTarget) (hno : Reference.issued s = none) :
    (Reference.activeNext s).motion = { s.motion with
      limUp := s.upAsserted, limDn := s.dnAsserted, changed := Reference.changed s
      cstate := Reference.cstate s, target := Reference.target s, hb := s.hb != Reference.retargets s } := by
  have hloop : s.cstate.homing = false ∧ moving s.cstate = false ∧ settling s.cstate = false ∧
      s.cstate ≠ .h4Settle ∧ s.cstate ≠ .lMove := by
    obtain hc | hc := hc <;> rw [hc] <;> decide
  obtain ⟨hhoming, hmoving, hsettling, h4, hmove⟩ := hloop
  have hh := halts_eq_false_of_not_settling hsettling hcalm
  have hidle := idle_of_not_moving hi hmoving
  have hacc := (accepted_of_idle hidle).trans hno
  obtain ⟨hphase, hdir, htaken⟩ := keeps_of_idle hh hidle hacc
  obtain ⟨htimer, hmax, hhp⟩ := burst_registers_of_idle hh hidle hacc
  have hcause : Reference.halting s = none := by simpa [Reference.halts] using hh
  have hhomes : Reference.homes s = false := by simp [Reference.homes, Reference.verifying, h4]
  simp only [State.motion, Reference.activeNext, hphase, hidle, hdir, htaken, htimer, hmax, hhp, hcause, hhomes,
    hacc_of_not_homing hhoming, stimer_of_not_homing hhoming, position_of_not_writer h4 hmove, Bool.or_false,
    Option.none_or]

/-- L_COMPUTE at the target only moves on (R201). -/
theorem motion_of_lCompute_at_target {s : State} {k : Nat} (hi : s.Inv) (hcalm : Calm s (k + 1))
    (hc : s.cstate = .lCompute) (ht : s.target = s.position) :
    (Reference.activeNext s).motion = { s.motion with
      limUp := s.upAsserted, limDn := s.dnAsserted, changed := Reference.changed s, cstate := .lTarget } := by
  have hh := halts_eq_false_of_not_settling (by simp [hc, settling]) hcalm
  have hno : Reference.issued s = none := by simpa [ht] using issued_isSome_of_lCompute hh hc
  have hne : s.cstate ≠ .lTarget := by simp [hc]
  have hcstate : Reference.cstate s = .lTarget := by simp [Reference.cstate, hh, hc, ht]
  rw [motion_of_no_move hi hcalm (.inl hc) hno, hcstate, target_of_ne hne, retargets_of_ne hne, Bool.bne_false]
  rfl

/-- L_TARGET takes the target from SBR, toggles the heartbeat and moves on (R203, R208). -/
theorem motion_of_lTarget {s : State} {k : Nat} (hi : s.Inv) (hcalm : Calm s (k + 1)) (hc : s.cstate = .lTarget) :
    (Reference.activeNext s).motion = { s.motion with
      limUp := s.upAsserted, limDn := s.dnAsserted, changed := Reference.changed s, cstate := .lCompute
      target := scaledTarget s.cfg s.sbr, hb := !s.motion.hb } := by
  have hh := halts_eq_false_of_not_settling (by simp [hc, settling]) hcalm
  have hno : Reference.issued s = none := by simp [Reference.issued, hc]
  obtain ⟨htarget, hre, hcstate⟩ := target_of_lTarget hh hc
  rw [motion_of_no_move hi hcalm (.inr hc) hno, hcstate, htarget, hre, Bool.bne_true]
  rfl

/-- An iteration at the target whose SBR still gives that target changes the heartbeat and the monitor alone (R206). -/
theorem motion_of_iteration_at_target {s : State} {k : Nat} (hi : s.Inv) (hcalm : Calm s (k + 2))
    (hc : s.cstate = .lCompute) (ht : s.target = s.position) (hsbr : Reference.sbr s = s.sbr)
    (hscaled : s.target = scaledTarget s.cfg s.sbr) :
    let u := Reference.activeNext s
    (Reference.activeNext u).motion = { s.motion with
      limUp := u.upAsserted, limDn := u.dnAsserted, changed := Reference.changed u, hb := !s.hb } := by
  intro u
  have hu : u.motion = _ := motion_of_lCompute_at_target hi hcalm hc ht
  have hscaled' : scaledTarget u.cfg u.sbr = s.motion.target := (congrArg (scaledTarget s.cfg) hsbr).trans hscaled.symm
  have hc' : CState.lCompute = s.motion.cstate := hc.symm
  rw [motion_of_lTarget (activeNext_inv hi) (calm_next hcalm) (congrArg MotionView.cstate hu), hu, hscaled', hc']
  rfl

theorem stepOut_of_motion {s : State} (h : s.motion.sqPhase = .idle) : s.stepOut = false :=
  beq_eq_false_iff_ne.mpr fun hp => nomatch h.symm.trans hp

theorem after_succ_of_no_reset {s : State} (k : Nat) (h : s.drive.rst = false) :
    after (k + 1) s = after k (Reference.activeNext s) := by
  rw [after, step_of_no_reset h]

end Sys2Proof.Machine

open Sys2Proof Sys2Proof.Machine

/-- Settles O48: the two cycles are `motion_of_lCompute_at_target` and `motion_of_iteration_at_target`; SBR stands where
no service stores into it (`sbr_of_no_store`). -/
theorem loopIsIdempotentAtTheTarget : Obligations.LoopIsIdempotentAtTheTarget := by
  unfold Obligations.LoopIsIdempotentAtTheTarget
  intro s hi hcalm hc ht hscaled hstore
  have hcalm' := calm_next hcalm
  have hidle : s.motion.sqPhase = .idle := idle_of_not_moving hi (by simp [hc, moving])
  have hsbr := sbr_of_no_store hstore
  have hu := motion_of_lCompute_at_target hi hcalm hc ht
  have hv := motion_of_iteration_at_target hi hcalm hc ht hsbr hscaled
  have htarget := congrArg MotionView.target hv
  have hposition := congrArg MotionView.position hv
  have hafter := fun k => after_succ_of_no_reset k (rst_of_calm hcalm)
  refine ⟨_, _, hafter 0, (hafter 1).trans (after_succ_of_no_reset 0 (rst_of_calm hcalm')), hu, hsbr,
    stepOut_of_motion ((congrArg MotionView.sqPhase hu).trans hidle), hv,
    (congrArg MotionView.cstate hv).trans hc, hposition, htarget,
    stepOut_of_motion ((congrArg MotionView.sqPhase hv).trans hidle), fun hstore' => ?_⟩
  have hsbr' := (sbr_of_no_store hstore').trans hsbr
  refine ⟨hsbr', htarget.trans (ht.trans hposition.symm), htarget.trans (hscaled.trans ?_)⟩
  exact congrArg (scaledTarget s.cfg) hsbr'.symm

/-- Settles O45: L_TARGET does not halt here (`halts_eq_false_of_lTarget`), and the product it takes the target from
does not wrap (`toInt_scaledTarget`). -/
theorem targetIsTheByteTimesScale : Obligations.TargetIsTheByteTimesScale := by
  unfold Obligations.TargetIsTheByteTimesScale
  intro s hr hc hlim
  obtain ⟨htarget, hre, hcstate⟩ := target_of_lTarget (halts_eq_false_of_lTarget hc hlim) hc
  refine ⟨_, step_of_no_reset hr, (congrArg BitVec.toInt htarget).trans (toInt_scaledTarget _ _), ?_, hcstate,
    position_of_not_writer (by simp [hc]) (by simp [hc])⟩
  exact (congrArg (s.hb != ·) hre).trans (Bool.bne_true _)

/-- Settles O44, by the rule of each operation; the distance is 0 exactly at the target, and the burst down is for its
negative. -/
theorem loopOperations : Obligations.LoopOperations := by
  unfold Obligations.LoopOperations
  intro s
  refine ⟨fun hup => ?_, fun hdown => ?_, fun hthere => ?_, exec_lMove_of_busy, fun hidle hdir => ?_,
    fun hidle hdir => ?_, ?_⟩
  · exact (exec_lCompute s).trans (if_pos hup)
  · rw [exec_lCompute, State.steps, if_neg hdown.not_gt, if_pos hdown, issueMove, neg_sub]
  · have hzero := (toInt_sub_eq_zero_iff _ _).mpr hthere
    rw [exec_lCompute, State.steps, if_neg hzero.not_gt, if_neg hzero.not_lt]
  · rw [exec_lMove_of_idle hidle, if_pos hdir]
  · rw [exec_lMove_of_idle hidle, if_neg (by simp [hdir])]
  · rw [← scaledTarget_eq_ofNat]
    rfl
end

section
/-! The fail-stop halt (spec/60_exceptions.md): its operations (R222 to R224), the conditions a cycle enters it on
(R222), what that cycle leaves unchanged (R223, R225), and that no cycle without reset leaves it (R224). -/

namespace Sys2Proof.Machine

/-! ### The conditions (R222) -/

theorem bothLimitsFire_iff (s : State) (upN dnN : Bool) : s.bothLimitsFire upN dnN = true ↔
    s.cstate ≠ .halt ∧ s.cfg.bothLimitsHalt = true ∧ upN = true ∧ dnN = true := by
  simp [State.bothLimitsFire, and_assoc]

/-- The verify halts for the budget where it is used up, and for the switch only where it is not. -/
theorem verifyCause_eq_some_iff {b : Word32} {k j c : HaltCause} {wrong : Bool} {s : State} :
    verifyCause b k wrong j s = some c ↔
      s.stimer = 0 ∧ ((b.toNat ≤ s.hacc.toNat ∧ k = c) ∨ (s.hacc.toNat < b.toNat ∧ wrong = true ∧ j = c)) := by
  by_cases ht : s.stimer = 0#32
  case neg => simp [verifyCause, ht]
  case pos =>
    by_cases hb : b.toNat ≤ s.hacc.toNat
    · simp [verifyCause, BitVec.ule, ht, hb, hb.not_gt]
    · simp [verifyCause, BitVec.ule, ht, hb, Nat.lt_of_not_ge hb]

/-- Three states verify, each with causes of its own (R183, R186, R189). -/
theorem settleCause_eq_some_iff {s : State} {c : HaltCause} : settleCause s = some c ↔
    (s.cstate = .h1Settle ∧ verifyCause s.cfg.maxUpHomingBackoff .upBudget s.upAsserted .upStuck s = some c) ∨
    (s.cstate = .h2Settle ∧ verifyCause s.cfg.maxHomingSteps .seekBudget (!s.dnAsserted) .downMissing s = some c) ∨
    (s.cstate = .h3Settle ∧ verifyCause s.cfg.maxBackoffSteps .backoffBudget s.dnAsserted .downStuck s = some c) := by
  cases hc : s.cstate <;> simp [settleCause, hc]

/-- Both limits asserted halt with cause 7 from every state but HALT, before the state's own check is looked at. -/
theorem halting_eq_some_iff_of_bothLimits {s : State} {c : HaltCause}
    (h : s.bothLimitsFire s.upAsserted s.dnAsserted = true) :
    Reference.halting s = some c ↔ c = .bothLimits := by
  rw [halting_of_bothLimits h, Option.some_inj, eq_comm]

theorem cstate_eq_halt_iff_halts {s : State} (hc : s.cstate ≠ .halt) :
    Reference.cstate s = .halt ↔ Reference.halts s = true := by
  rw [cstate_eq_halt_iff, or_iff_left hc]

/-- From outside HALT, a cycle ends in HALT with the cause `c` on record exactly when it enters it with that cause. -/
theorem halted_with_iff {s : State} {c : HaltCause} (hc : s.cstate ≠ .halt) :
    (Reference.cstate s = .halt ∧ (Reference.halting s).or s.haltCause = some c) ↔
      Reference.halting s = some c := by
  rw [cstate_eq_halt_iff_halts hc, Reference.halts]
  cases Reference.halting s <;> simp

/-! ### The cycle that enters the halt (R223) -/

/-- The controller's registers but the state and the cause, read from the state after the controller. -/
theorem controller_registers_of_controlled {s t : State} (h : controlled s = t) :
    Reference.hacc s = t.hacc ∧ Reference.stimer s = t.stimer ∧ Reference.position s = t.position ∧
      Reference.target s = t.target ∧ (s.homed || Reference.homes s) = t.homed ∧
      (s.hb != Reference.retargets s) = t.hb := by
  subst h
  exact ⟨rfl, rfl, rfl, rfl, rfl, rfl⟩

/-- Entering the halt writes the controller's state and cause only. -/
theorem controller_registers_of_halts {s : State} (h : Reference.halts s = true) :
    Reference.hacc s = s.hacc ∧ Reference.stimer s = s.stimer ∧ Reference.position s = s.position ∧
      Reference.target s = s.target ∧ (s.homed || Reference.homes s) = s.homed ∧
      (s.hb != Reference.retargets s) = s.hb := by
  obtain ⟨k, hk⟩ := Option.isSome_iff_exists.mp h
  have hkeep := controller_registers_of_controlled (controlled_of_halting hk)
  exact hkeep

/-- No move is accepted and no pulse is checked. -/
theorem no_burst_event_of_halts {s : State} (h : Reference.halts s = true) :
    Reference.accepted s = none ∧ Reference.pulseEnds s = false := by
  simp [Reference.accepted, Reference.issued, Reference.pulseEnds, h]

/-- The sequencer goes idle and its other registers stand. -/
theorem sequencer_registers_of_halts {s : State} (h : Reference.halts s = true) :
    Reference.sqPhase s = .idle ∧ Reference.sqTimer s = s.sqTimer ∧ Reference.sqMax s = s.sqMax ∧
      Reference.sqTaken s = s.sqTaken ∧ Reference.sqHp s = s.sqHp ∧ Reference.lastDir s = s.lastDir := by
  obtain ⟨ha, hp⟩ := no_burst_event_of_halts h
  simp [Reference.sqPhase, Reference.sqTimer, Reference.sqMax, Reference.sqTaken, Reference.sqHp, Reference.lastDir,
    h, ha, hp]

/-- The flag is left to the monitor where no burst begins and no pulse is checked (R102, R105). -/
theorem changed_of_no_burst_event {s : State} (ha : Reference.accepted s = none)
    (hp : Reference.pulseEnds s = false) : Reference.changed s = Reference.changedM s := by
  simp [Reference.changed, ha, hp]

/-! ### The outputs (R23, R225) -/

theorem dirOut_congr {s t : State} (hcfg : t.cfg = s.cfg) (h : t.lastDir = s.lastDir) : t.dirOut = s.dirOut := by
  simp only [State.dirOut, hcfg, h]

theorem faultOut_of_halt {s : State} (h : s.cstate = .halt) : s.faultOut = s.cfg.faultActiveLevel := by
  simp [State.faultOut, h]

/-! ### Cycles in HALT (R224) -/

theorem halting_eq_none_of_halt {s : State} (hc : s.cstate = .halt) : Reference.halting s = none := by
  simp [Reference.halting, hc]

/-- HALT takes no action, so what the bus engine leaves stands. -/
theorem controlled_of_halt {s : State} (hc : s.cstate = .halt) : controlled s = bused s := by
  have hexec := exec_instr_of_not_halting (halting_eq_none_of_halt hc)
  rw [hc] at hexec
  exact (Host.Outcome.next.inj hexec).symm

/-- In HALT with the sequencer idle a cycle writes the limit registers and the flag of the motion half, no more. -/
theorem motion_of_halt {s : State} (hc : s.cstate = .halt) (hp : s.sqPhase = .idle) :
    (Reference.activeNext s).motion = { s.motion with
      limUp := s.upAsserted, limDn := s.dnAsserted, changed := Reference.changedM s } := by
  have hh := halts_of_halting_none (halting_eq_none_of_halt hc)
  have hctl := controlled_of_halt hc
  have ha : Reference.accepted s = none := by simp [accepted_of_idle hp, Reference.issued, hc]
  have hends : Reference.pulseEnds s = false := by simp [Reference.pulseEnds, hp]
  obtain ⟨hphase, hdir, htaken⟩ := keeps_of_idle hh hp ha
  obtain ⟨htimer, hmax, hhp⟩ := burst_registers_of_idle hh hp ha
  have hcstate : Reference.cstate s = s.cstate := congrArg State.cstate hctl
  have hcause : (Reference.halting s).or s.haltCause = s.haltCause := congrArg State.haltCause hctl
  obtain ⟨hacc, hstimer, hposition, htarget, hhomed, hhb⟩ := controller_registers_of_controlled hctl
  simp only [State.motion, Reference.activeNext, hphase, hp, hdir, htaken, htimer, hmax, hhp, hcstate, hacc, hstimer,
    hposition, htarget, hhomed, hhb, hcause, bused_hacc, bused_stimer, bused_position, bused_target, bused_homed,
    bused_hb, changed_of_no_burst_event ha hends]

theorem noReset_next {s : State} {k : Nat} (h : NoReset s (k + 1)) : NoReset (Reference.activeNext s) k :=
  fun d hd => h d (mem_drives_of_mem_next hd)

/-- The run from the halted `s` has come to `t`: nothing has changed but the bus half and the monitor, whose flag is
kept once set. -/
structure HaltedSince (s t : State) : Prop where
  cfg : t.cfg = s.cfg
  motion : t.motion = { s.motion with limUp := t.limUp, limDn := t.limDn, changed := t.changed }
  changed : s.changed = true → t.changed = true

theorem HaltedSince.refl (s : State) : HaltedSince s s := ⟨rfl, rfl, id⟩

theorem HaltedSince.trans {s t u : State} (hst : HaltedSince s t) (htu : HaltedSince t u) : HaltedSince s u where
  cfg := htu.cfg.trans hst.cfg
  motion := by rw [htu.motion, hst.motion]
  changed h := htu.changed (hst.changed h)

theorem haltedSince_next {s : State} (hc : s.cstate = .halt) (hp : s.sqPhase = .idle) :
    HaltedSince s (Reference.activeNext s) := by
  have hmotion := motion_of_halt hc hp
  have hchanged : (Reference.activeNext s).changed = Reference.changedM s := congrArg MotionView.changed hmotion
  refine ⟨rfl, hmotion.trans (by rw [hchanged]; rfl), fun h => ?_⟩
  rw [hchanged, Reference.changedM, h, Bool.true_or]

theorem HaltedSince.halted {s t : State} (h : HaltedSince s t) (hc : s.cstate = .halt) (hp : s.sqPhase = .idle) :
    t.cstate = .halt ∧ t.sqPhase = .idle :=
  ⟨(congrArg MotionView.cstate h.motion).trans hc, (congrArg MotionView.sqPhase h.motion).trans hp⟩

/-- A halted machine stays halted over every run without reset (R224). -/
theorem after_haltedSince (k : Nat) {s : State} (hc : s.cstate = .halt) (hp : s.sqPhase = .idle)
    (hreset : NoReset s k) : ∃ t, after k s = some t ∧ HaltedSince s t := by
  induction k generalizing s with
  | zero => exact ⟨s, rfl, .refl s⟩
  | succ k ih =>
    have hnext := haltedSince_next hc hp
    obtain ⟨hc', hp'⟩ := hnext.halted hc hp
    obtain ⟨t, ht, hsince⟩ := ih hc' hp' (noReset_next hreset)
    have hrst : s.drive.rst = false := hreset s.drive List.mem_cons_self
    exact ⟨t, (after_succ_of_no_reset k hrst).trans ht, hnext.trans hsince⟩

end Sys2Proof.Machine

open Sys2Proof Sys2Proof.Machine

/-- Settles O54: each cycle in HALT keeps what `HaltedSince` says (`haltedSince_next`), and so does every run of them
(`after_haltedSince`); the outputs are read off the halted controller and the idle sequencer. -/
theorem haltIsAbsorbing : Obligations.HaltIsAbsorbing := by
  unfold Obligations.HaltIsAbsorbing
  intro k s hc hp hreset
  obtain ⟨t, ht, hsince⟩ := after_haltedSince k hc hp hreset
  obtain ⟨hc', hp'⟩ := hsince.halted hc hp
  exact ⟨t, ht, stepOut_of_motion hp', (faultOut_of_halt hc').trans (by rw [hsince.cfg]), hsince.motion,
    hsince.changed⟩

/-- Settles O52: the cycle ends in HALT with a cause exactly when the reference halts with it (`halted_with_iff`);
where both limits fire that is cause 7, and elsewhere it is the settle state's own check
(`verifyCause_eq_some_iff`). -/
theorem haltIsEnteredExactlyOnItsConditions : Obligations.HaltIsEnteredExactlyOnItsConditions := by
  unfold Obligations.HaltIsEnteredExactlyOnItsConditions
  intro s hr hc
  have hfire := bothLimitsFire_iff s s.upAsserted s.dnAsserted
  rw [and_iff_right hc] at hfire
  refine ⟨_, step_of_no_reset hr, fun hboth => ?_, fun c => (halted_with_iff hc).trans ?_⟩
  · have hh : Reference.halts s = true := by simp [Reference.halts, halting_of_bothLimits (hfire.mpr hboth)]
    exact controller_registers_of_halts hh
  · by_cases hboth : s.bothLimitsFire s.upAsserted s.dnAsserted = true
    · rw [halting_eq_some_iff_of_bothLimits hboth]
      simp only [← hfire, hboth]
      cases c <;> simp
    · rw [halting_eq_settleCause (Bool.eq_false_iff.mpr hboth)]
      simp only [← hfire, hboth, settleCause_eq_some_iff, verifyCause_eq_some_iff]
      cases c <;> simp [and_assoc]

/-- Settles O53: outside HALT a cycle ends in it exactly when it enters it (`cstate_eq_halt_iff_halts`), and then the
controller and the sequencer keep their other registers. -/
theorem haltEntryOverACycle : Obligations.HaltEntryOverACycle := by
  unfold Obligations.HaltEntryOverACycle
  intro s hr hc
  refine ⟨_, step_of_no_reset hr, fun hhalt => ?_⟩
  have hh : Reference.halts s = true := (cstate_eq_halt_iff_halts hc).mp hhalt
  obtain ⟨hacc, hstimer, hposition, htarget, hhomed, hhb⟩ := controller_registers_of_halts hh
  obtain ⟨hphase, htimer, hmax, htaken, hhp, hdir⟩ := sequencer_registers_of_halts hh
  obtain ⟨haccepted, hends⟩ := no_burst_event_of_halts hh
  exact ⟨hphase, stepOut_of_motion hphase, faultOut_of_halt hhalt, htimer, hmax, htaken, hhp, hdir,
    dirOut_congr rfl hdir, hhb, changed_of_no_burst_event haccepted hends, hhomed, hposition, htarget, hacc, hstimer⟩

/-- Settles O51: HALT_ENTRY and HALT are their meanings, and BOTH_LIMITS acts exactly on its whole condition
(`bothLimitsFire_iff`). -/
theorem haltOperations : Obligations.HaltOperations := by
  unfold Obligations.HaltOperations
  exact fun s => ⟨fun _ => rfl, if_congr (bothLimitsFire_iff s s.wires.upN s.wires.dnN) rfl rfl, rfl⟩
end
